-- ==== Sys2Proof/Word.lean ====
section
/-! DEFINITION. The word types of the IR Link: one name for each width the spec gives a register, a
port or a wire quantity (10_state.md R20, R34, R35; 30_encoding.md R82, R86, R88, R91). -/

namespace Sys2Proof

/-- A payload byte, the command argument and the result slot's byte: 8 bits (R20, R35). -/
abbrev Byte := BitVec 8

/-- A wire frame as the transmit shift register holds it: 12 bits (R21, R82). -/
abbrev Frame := BitVec 12

/-- A received word as the receive accumulator holds it: 10 bits (R23, R86). -/
abbrev RxWord := BitVec 10

/-- A bit counter of the transmitter or the receiver: 4 bits (R22, R24). -/
abbrev BitCount := BitVec 4

/-- A command opcode: 3 bits (R89). -/
abbrev Opcode := BitVec 3

/-- A command word, opcode in bits 10 to 8, argument in bits 7 to 0 (R88). -/
abbrev CmdWord := BitVec 11

/-- A response word: 16 bits (R91). -/
abbrev Response := BitVec 16

end Sys2Proof
end

