-- ==== Sys2Proof/Config.lean ====
section
/-! DEFINITION. What an implementation of the IR Link fixes (00_scope.md R6), and the one free value of
the model: the level of the input line where nothing in the state says it (20_memory.md R61). -/

namespace Sys2Proof

/-- The three OPEN parameters of 00_scope.md R6 that a rule of the cycle level reads. The clock and the times
they come from are `Clocking` (log entry 5). -/
structure Params where
  /-- `BIT_DIV`: clock cycles per bit period. -/
  bitDiv : Nat
  /-- `SETTLE_DIV`: clock cycles of the receiver's settling delay. -/
  settleDiv : Nat
  /-- `CARRIER_DIV`: clock cycles per carrier period. -/
  carrierDiv : Nat
deriving DecidableEq, Repr

/-- The clock frequency and the times of 00_scope.md R6, exact numbers in hertz and seconds. No rule of the
cycle level reads them: they fix `BIT_DIV` and `CARRIER_DIV` (`Params.clockedBy`). The named configuration
`TINY` has none. -/
structure Clocking where
  /-- `F_CLK`: clock frequency of the block, in hertz. -/
  fClk : ℚ
  /-- `T_BIT`: bit period, in seconds. -/
  tBit : ℚ
  /-- `F_CARRIER`: carrier frequency, in hertz. -/
  fCarrier : ℚ
deriving DecidableEq, Repr

namespace Config

/-- `TX_BITS`: bit periods emitted per frame (R6). -/
def txBits : Nat := 12

/-- `RX_BITS`: bit periods sampled per frame (R6). -/
def rxBits : Nat := 10

/-- `T_BIT`'s nominal value, 1 ms: "1 time unit (millisecond-scale)" (R6; the literal is unaudited). -/
def nominalTBit : ℚ := 1 / 1000

/-- `F_CARRIER`'s nominal value, 38 kHz: "≈ 38 kHz" (R6; the literal is unaudited). -/
def nominalFCarrier : ℚ := 38000

/-- `DUTY`: the carrier's duty cycle, 50 % (R6). -/
def duty : ℚ := 1 / 2

/-- The dividers of the named configuration `REF` of R6. -/
def ref : Params := { bitDiv := 1216, settleDiv := 608, carrierDiv := 32 }

/-- The clock of the named configuration `REF` of R6: `F_CLK` = 1 216 000 Hz, the nominal times. -/
def refClocking : Clocking := { fClk := 1216000, tBit := nominalTBit, fCarrier := nominalFCarrier }

/-- The named configuration `TINY` of R6, for short traces only. -/
def tiny : Params := { bitDiv := 4, settleDiv := 2, carrierDiv := 2 }

/-- `BIT_DIV` less its least legal value: any natural number (log entry 5). -/
opaque bitDivLessTwo : Nat

/-- A number whose remainder by `BIT_DIV` is `SETTLE_DIV` (log entry 5). -/
opaque settleDraw : Nat

/-- Half of `CARRIER_DIV`, less one: any natural number (log entry 5). -/
opaque carrierHalfLessOne : Nat

/-- The parameters of this implementation. Every configuration that satisfies R6 is of this form, and
none other is, so this implementation's is never ill-formed (93_implementation_defined.md U6; for other states, log
entry 22). DESIGN CHOICE, safe (log entry 5). -/
def params : Params :=
  { bitDiv := bitDivLessTwo + 2
    settleDiv := settleDraw % (bitDivLessTwo + 2)
    carrierDiv := 2 * (carrierHalfLessOne + 1) }

/-- `F_CLK` is a positive number of hertz: the numerator of it, less one (log entry 5). -/
opaque fClkNumLessOne : Nat

/-- The denominator of `F_CLK` in hertz, less one (log entry 5). -/
opaque fClkDenLessOne : Nat

/-- The clock of this implementation: `F_CLK` any positive number (OPEN in R6), and the bit period and carrier
frequency that make `BIT_DIV` = `F_CLK` × `T_BIT` and `CARRIER_DIV` = `F_CLK` / `F_CARRIER` (R6). They are not
pinned to the nominal values, which the source gives only as "millisecond-scale" and "≈"
(93_implementation_defined.md U7). DESIGN CHOICE, safe (log entry 5). -/
def clocking : Clocking :=
  { fClk := (fClkNumLessOne + 1) / (fClkDenLessOne + 1)
    tBit := params.bitDiv / ((fClkNumLessOne + 1) / (fClkDenLessOne + 1))
    fCarrier := ((fClkNumLessOne + 1) / (fClkDenLessOne + 1)) / params.carrierDiv }

/-- FREE VALUE. The level of `ir_rx` at the n-th draw: 1 idle, 0 carrier seen. "At the event level a
model must treat every `LineRead()` as a free input of the step (a draw)" (20_memory.md R61,
93_implementation_defined.md U3). Nothing constrains it. DESIGN CHOICE, safe (log entry 3). -/
opaque irRx : Nat → Bool

end Config

end Sys2Proof
end

