-- ==== Sys2Proof/Syntax.lean ====
section
/-! DEFINITION. The command set: one constructor per row of spec/opcode_table.json (30_encoding.md R89).
The internal events EDGE, TX_TICK and RX_TICK "are not commands" (R99): they stand in Machine/Event.lean. -/

namespace Sys2Proof

/-- A host command. Ignored argument bits (R90, R95) are no part of it (log entry 7). -/
inductive Instr where
  /-- SEND b: `arg[7:0]` is the payload byte (R90). -/
  | send (b : Byte)
  /-- IS_SENDING; the argument is ignored. -/
  | isSending
  /-- AVAILABLE; the argument is ignored. -/
  | available
  /-- RECEIVE_BYTE; the argument is ignored. -/
  | receiveByte
  /-- IS_RECEIVING; the argument is ignored. -/
  | isReceiving
  /-- SET_CARRIER en: `en = arg[0]`; `arg[7:1]` are ignored (R90). -/
  | setCarrier (en : Bool)
  /-- DETECT_CARRIER; the argument is ignored. -/
  | detectCarrier
  /-- The reserved opcode 7 (R94); the argument is ignored. -/
  | reserved7
deriving DecidableEq, Repr

end Sys2Proof
end

