-- ==== Sys2Proof/WellFormed.lean ====
section
/-! DEFINITION. What is well formed: a command the host may issue, and a configuration that meets the
constraints of 00_scope.md R6. -/

namespace Sys2Proof

/-- A command is well formed when it is one of the seven operations; the host "is assumed never to issue
opcode 7" (60_exceptions.md R238). Every argument of the seven is legal (30_encoding.md R90, R95). -/
def Instr.wellFormed : Instr → Bool
  | .send _ => true
  | .isSending => true
  | .available => true
  | .receiveByte => true
  | .isReceiving => true
  | .setCarrier _ => true
  | .detectCarrier => true
  | .reserved7 => false

/-- `BIT_DIV` ≥ 2 (R6). -/
def Params.bitDivLegal (p : Params) : Bool := decide (2 ≤ p.bitDiv)

/-- 0 ≤ `SETTLE_DIV` < `BIT_DIV` (R6). -/
def Params.settleDivLegal (p : Params) : Bool := decide (p.settleDiv < p.bitDiv)

/-- `CARRIER_DIV` is even and ≥ 2 (R6). -/
def Params.carrierDivLegal (p : Params) : Bool :=
  decide (2 ≤ p.carrierDiv) && decide (p.carrierDiv % 2 = 0)

/-- The constraints of R6 together; a configuration outside them is ill formed
(93_implementation_defined.md U6). -/
def Params.wellFormed (p : Params) : Bool :=
  p.bitDivLegal && p.settleDivLegal && p.carrierDivLegal

/-- `F_CLK` and `F_CARRIER` are positive, as frequencies are (R6). -/
def Clocking.frequenciesLegal (c : Clocking) : Bool := decide (0 < c.fClk) && decide (0 < c.fCarrier)

/-- `BIT_DIV` = `F_CLK` × `T_BIT` (R6). -/
def Params.bitDivClocked (p : Params) (c : Clocking) : Bool := decide ((p.bitDiv : ℚ) = c.fClk * c.tBit)

/-- `CARRIER_DIV` = `F_CLK` / `F_CARRIER` (R6). -/
def Params.carrierDivClocked (p : Params) (c : Clocking) : Bool := decide ((p.carrierDiv : ℚ) = c.fClk / c.fCarrier)

/-- The dividers are those of the clock and the times (R6). -/
def Params.clockedBy (p : Params) (c : Clocking) : Bool :=
  c.frequenciesLegal && p.bitDivClocked c && p.carrierDivClocked c

/-- How long a number of clock cycles lasts, in seconds: a cycle "is the interval between two rising edges" of a
clock of frequency `F_CLK` (43_cycle_level.md R190). -/
def Clocking.duration (c : Clocking) (cycles : Nat) : ℚ := cycles / c.fClk

end Sys2Proof
end

