-- ==== Sys2Proof/Decode.lean ====
section
/-! DEFINITION. Decoding and encoding of command words (30_encoding.md R88, R89, R90, R94, R95, R96), from
the encoding tables of the spec. -/

namespace Sys2Proof

/-- The opcode field, bits 10 to 8 (R88). -/
def CmdWord.op (w : CmdWord) : Opcode := w.extractLsb' 8 3

/-- The argument field, bits 7 to 0 (R88). -/
def CmdWord.arg (w : CmdWord) : Byte := w.extractLsb' 0 8

/-- The command word `{op, arg}` (R88). -/
def cmdWord (op : Opcode) (arg : Byte) : CmdWord := op ++ arg

/-- The command an 11-bit word stands for: "a decoder needs only `cmd[10:8]`" (R96) to tell which. Total:
every word has a row in the table of R89, the reserved opcode 7 among them. -/
def decode (w : CmdWord) : Instr :=
  match w.op.toNat with
  | 0 => .send w.arg
  | 1 => .isSending
  | 2 => .available
  | 3 => .receiveByte
  | 4 => .isReceiving
  | 5 => .setCarrier (w.arg.getLsbD 0)
  | 6 => .detectCarrier
  | _ => .reserved7

/-- Why a number is no command word. -/
inductive DecodeError where
  /-- The number does not fit the 11 wires `cmd_op` and `cmd_arg` (R88). Safe: no command is made of it. -/
  | widerThanElevenBits
deriving DecidableEq, Repr

/-- Decoding of any number: the command of an 11-bit word, or a rejection by name. -/
def decodeNat (w : Nat) : Except DecodeError Instr :=
  if w < 2 ^ 11 then .ok (decode (BitVec.ofNat 11 w)) else .error .widerThanElevenBits

/-- The command of an opcode-table word: `w`'s low `nbits` bits, every bit above them 0. The block stores
no instructions (20_memory.md R76), so there are no bytes to lay out. -/
def decodeTableWord (nbits w : Nat) : Option Instr :=
  match decodeNat (w % 2 ^ nbits) with
  | .ok i => some i
  | .error _ => none

/-- The opcode number of a command (R89, R94). -/
def Instr.opcode : Instr → Opcode
  | .send _ => 0
  | .isSending => 1
  | .available => 2
  | .receiveByte => 3
  | .isReceiving => 4
  | .setCarrier _ => 5
  | .detectCarrier => 6
  | .reserved7 => 7

/-- The argument byte of a command, every ignored bit 0 (R90). -/
def Instr.argument : Instr → Byte
  | .send b => b
  | .isSending => 0
  | .available => 0
  | .receiveByte => 0
  | .isReceiving => 0
  | .setCarrier en => if en then 1 else 0
  | .detectCarrier => 0
  | .reserved7 => 0

/-- The command word of a command, every ignored bit 0 (R88, R95). -/
def encode (i : Instr) : CmdWord := cmdWord i.opcode i.argument

/-- A command word with its ignored bits cleared: all of `arg` is read for SEND, `arg[0]` for SET_CARRIER,
nothing for the others (R90). -/
def clearIgnored (w : CmdWord) : CmdWord :=
  match w.op.toNat with
  | 0 => w
  | 5 => w &&& 0x701
  | _ => w &&& 0x700

end Sys2Proof
end

