-- ==== Sys2Proof/Machine/Widths.lean ====
section
/-! DEFINITION. The widths of the three registers of 10_state.md R34 whose size depends on the configuration. -/

namespace Sys2Proof

/-- Width of `bpc`: ceil(log2(`BIT_DIV`)) bits (10_state.md R34). -/
def Params.bpcWidth (p : Params) : Nat := Nat.clog 2 p.bitDiv

/-- Width of `settle`: ceil(log2(`SETTLE_DIV` + 1)) bits (10_state.md R34). -/
def Params.settleWidth (p : Params) : Nat := Nat.clog 2 (p.settleDiv + 1)

/-- Width of `cph`: ceil(log2(`CARRIER_DIV`)) bits (10_state.md R34). -/
def Params.cphWidth (p : Params) : Nat := Nat.clog 2 p.carrierDiv

end Sys2Proof
end

