-- ==== Sys2Proof/Machine/State.lean ====
section
/-! DEFINITION. The state of one IR Link: the ten architectural registers (10_state.md R20), the
cycle-level registers (R34), and the model's own record of what the outside world presents on the input
ports (R35). The block has no memory (20_memory.md R60). -/

namespace Sys2Proof.Machine

/-- The state of the link (R26). `0b11` "is not a legal value" and cannot be written down
(93_implementation_defined.md U2; log entry 8). -/
inductive Mode where
  /-- Idle-Receiving, encoded 0b00. -/
  | idle
  /-- Transmitting, encoded 0b01. -/
  | tx
  /-- CarrierSensing, encoded 0b10. -/
  | cs
deriving DecidableEq, Repr

/-- The ten registers of R20: "the event-level (architectural) state of one IR Link". DESIGN CHOICE, unsafe: R20 and
92_eei_decisions.md D32 count "40 bits" in all, but the widths of R20's own table (and R21 to R26, D6, D13) add up to
44. The model has each register at the width the table gives it (log entry 23). -/
structure Arch where
  /-- Frame bits not yet emitted, next bit at bit 0 (R21). -/
  txShift : Frame
  /-- Number of bits emitted in this session (R22). -/
  txCount : BitCount
  /-- Sampled bits of this session, sample `i` at bit `i` (R23). -/
  rxAcc : RxWord
  /-- Number of bits sampled in this session (R24). -/
  rxCount : BitCount
  /-- The result slot holds a byte pending consumption (R25). -/
  resValid : Bool
  /-- The pending byte (R25). -/
  resData : Byte
  /-- The link state (R26). -/
  mode : Mode
  /-- A receive session is active (R27). -/
  rxActive : Bool
  /-- The edge trigger is armed (R28). -/
  armed : Bool
  /-- Carrier on at the output (R29). -/
  gate : Bool
deriving DecidableEq, Repr

/-- The input ports of R35 in one clock cycle, as sampled at the rising edge that ends it (R190). -/
structure Inputs where
  /-- `rst`: synchronous reset, active high. -/
  rst : Bool
  /-- `cmd_valid`: a command is presented. -/
  cmdValid : Bool
  /-- `cmd_op`: its opcode. -/
  cmdOp : Opcode
  /-- `cmd_arg`: its argument. -/
  cmdArg : Byte
  /-- `ir_rx`: the demodulated detector output, 1 idle, 0 carrier seen. -/
  irRx : Bool
deriving DecidableEq, Repr

/-- The whole state: the architectural registers, the cycle-level registers of R34, and the model's own
three fields. -/
structure State extends Arch where
  /-- MODEL'S OWN: the configuration the block is built with, which gives its counters their widths. It is no
  register: nothing writes it (log entry 9). The type holds numbers that break 00_scope.md R6 too; what such a block
  does is the model's choice (log entry 22). -/
  params : Params
  /-- First synchroniser stage of `ir_rx` (R193). -/
  s1 : Bool
  /-- Second synchroniser stage: the level `LineRead()` returns (R193). -/
  s2 : Bool
  /-- `s2` delayed by one cycle, for falling-edge detection (R193). -/
  prev : Bool
  /-- Bit-period counter, 0 to `BIT_DIV` - 1 (R34, R196). -/
  bpc : BitVec params.bpcWidth
  /-- Remaining cycles of the settling delay (R34, R195). -/
  settle : BitVec params.settleWidth
  /-- Carrier phase counter, 0 to `CARRIER_DIV` - 1 (R34, R199). -/
  cph : BitVec params.cphWidth
  /-- Response word of the last command (R198). -/
  rsp : Response
  /-- 1 for one cycle after a command (R198). -/
  rspValid : Bool
  /-- MODEL'S OWN: what the outside world presents on the input ports in the coming cycles, this cycle's
  record first (log entry 2). -/
  inputs : List Inputs
  /-- MODEL'S OWN: how many levels of `ir_rx` have been drawn from `Config.irRx` (log entry 3). -/
  drawn : Nat
deriving DecidableEq, Repr

/-- The reasons a step faults: none. "No exceptions/panics are used; every operation that can fail returns
a sentinel or boolean. No operation is fatal" (60_exceptions.md R220). Nobody raises one. Safe: the block
never traps and never halts (log entry 16). -/
inductive Fault where
deriving DecidableEq, Repr

/-- The reasons a step is refused. -/
inductive Refusal where
  /-- Raised by the dispatch for an instruction without a meaning. Safe: the run stops. Every instruction has
  its meaning, so nothing raises it. -/
  | notModelled (mnemonic : String)
deriving DecidableEq, Repr

/-- The architectural registers after reset (10_state.md R45). -/
def Arch.reset : Arch :=
  { txShift := 0
    txCount := 0
    rxAcc := 0
    rxCount := 0
    resValid := false
    resData := 0
    mode := .idle
    rxActive := false
    armed := true
    gate := false }

/-- A block of the given configuration right after reset (R45, 70_reset_and_hazards.md R250). The schedule is
empty and nothing is drawn: the outside has said nothing yet (log entries 2 and 3). DESIGN CHOICE, unsafe: it takes any
numbers, also a configuration that breaks 00_scope.md R6, where 93_implementation_defined.md U6 advises to refuse (log
entry 22). -/
def State.resetAt (p : Params) : State :=
  { toArch := Arch.reset
    params := p
    s1 := true
    s2 := true
    prev := true
    bpc := 0
    settle := 0
    cph := 0
    rsp := 0
    rspValid := false
    inputs := []
    drawn := 0 }

/-- The machine right after reset: the block of this implementation's configuration. -/
def State.reset : State := State.resetAt Config.params

end Sys2Proof.Machine
end

