-- ==== Sys2Proof/Machine/Flags.lean ====
section
/-! DEFINITION. The derived flags the rules use (10_state.md R30) and the mode register's code (R26). -/

namespace Sys2Proof.Machine

/-- The two-bit code of the mode register: IDLE 0b00, TX 0b01, CS 0b10 (R26). -/
def Mode.code : Mode → BitVec 2
  | .idle => 0b00
  | .tx => 0b01
  | .cs => 0b10

/-- `txActive` = (`mode` = TX) (R30). -/
def Arch.txActive (a : Arch) : Bool := decide (a.mode = .tx)

/-- `csActive` = (`mode` = CS) (R30). -/
def Arch.csActive (a : Arch) : Bool := decide (a.mode = .cs)

/-- `sessionActive` = `txActive` or `rxActive` (R30). It is the condition under which the bit-period timer
runs (43_cycle_level.md R196) and the busy test of both forms of SET_CARRIER (42_carrier_and_arbiter.md
R161, R162). -/
def Arch.sessionActive (a : Arch) : Bool := a.txActive || a.rxActive

/-- The busy test of SEND: `mode` is not IDLE, or a receive session is active (40_transmit.md R111). -/
def Arch.sendBusy (a : Arch) : Bool := decide (a.mode ≠ .idle) || a.rxActive

/-- A result is pending and no session is sampling: what AVAILABLE answers (41_receive.md R137) and the
output `rx_avail` shows (43_cycle_level.md R201). -/
def Arch.resultAvailable (a : Arch) : Bool := a.resValid && !a.rxActive

end Sys2Proof.Machine
end

