-- ==== Sys2Proof/Machine/Frame.lean ====
section
/-! DEFINITION. The wire frame (30_encoding.md section 1): parity, the frame as transmitted, and the check of
a received word. -/

namespace Sys2Proof.Machine

/-- `parity8(b)`, "the exclusive or of its eight bits" (R83). -/
def parity8 (b : Byte) : Bool :=
  b.getLsbD 0 ^^ b.getLsbD 1 ^^ b.getLsbD 2 ^^ b.getLsbD 3 ^^
    b.getLsbD 4 ^^ b.getLsbD 5 ^^ b.getLsbD 6 ^^ b.getLsbD 7

/-- `frame(b)` = `{0b0, 0b1, parity8(b), b[7:0], 0b1}` (R82): guard, stop, parity, payload, start. -/
def frame (b : Byte) : Frame :=
  0#1 ++ 1#1 ++ BitVec.ofBool (parity8 b) ++ b ++ 1#1

/-- The candidate payload of a received word, `rxAcc[7:0]` (R86). -/
def candidate (w : RxWord) : Byte := w.extractLsb' 0 8

/-- The received parity bit, `rxAcc[8]` (R86). -/
def receivedParity (w : RxWord) : Bool := w.getLsbD 8

/-- The received stop bit, `rxAcc[9]` (R86). -/
def receivedStop (w : RxWord) : Bool := w.getLsbD 9

/-- The outcomes of a tenth RX_TICK: `COMMIT`, `REJECT_PARITY`, `REJECT_STOP` (60_exceptions.md R223). "These
names are labels of transitions, not values held anywhere in the hardware." -/
inductive FrameCheck where
  /-- Parity and stop match: the byte is delivered. -/
  | commit (cand : Byte)
  /-- The parity bit does not match. -/
  | rejectParity
  /-- The parity bit matches and the stop bit is 0. -/
  | rejectStop
deriving DecidableEq, Repr

/-- The check of a received word, parity first, then stop (41_receive.md R134, 60_exceptions.md R222). -/
def checkFrame (w : RxWord) : FrameCheck :=
  if parity8 (candidate w) != receivedParity w then .rejectParity
  else if receivedStop w != true then .rejectStop
  else .commit (candidate w)

end Sys2Proof.Machine
end

