-- ==== Sys2Proof/Machine/Operands.lean ====
section
/-! DEFINITION. What goes in and out of a command: the command word on the ports (30_encoding.md R88) and the
response word (R91 to R93). -/

namespace Sys2Proof.Machine

/-- The command word on the port, `{cmd_op[2:0], cmd_arg[7:0]}` (R88). -/
def Inputs.word (inp : Inputs) : CmdWord := cmdWord inp.cmdOp inp.cmdArg

/-- A cycle in which the host presents nothing, with the given line level (R35). -/
def Inputs.silent (level : Bool) : Inputs :=
  { rst := false, cmdValid := false, cmdOp := 0, cmdArg := 0, irRx := level }

/-- A bool response: `0x0001` for true and `0x0000` for false (R92). -/
def boolResponse (v : Bool) : Response := if v then 0x0001 else 0x0000

/-- The response of RECEIVE_BYTE for a byte, `zext_16` (R93). -/
def byteResponse (d : Byte) : Response := d.setWidth 16

/-- The sentinel "no data", -1 (R93). -/
def noData : Response := 0xFFFF

end Sys2Proof.Machine
end

