-- ==== Sys2Proof/Machine/Ops.lean ====
section
/-! DEFINITION. The shared operations on registers and ports. The block has no memory, no trap and no return
from one (20_memory.md R60, 60_exceptions.md R220, R231, R232), so there is no operation for those: what an
internal event writes is its own rule (Machine/Transmit.lean, Machine/Receive.lean). -/

namespace Sys2Proof.Machine

/-- `LineRead()`: the level of the input line, at the cycle level the synchronised level `s2`
(00_scope.md R10, 43_cycle_level.md R193). Reading has no side effect (20_memory.md R61). -/
def State.lineRead (s : State) : Bool := s.s2

/-- Empty the result slot; "`resData` is forced to 0 whenever `resValid` is cleared" (10_state.md R25). -/
def Arch.clearSlot (a : Arch) : Arch := { a with resValid := false, resData := 0 }

/-- Fill the result slot (41_receive.md R136). -/
def Arch.fillSlot (a : Arch) (d : Byte) : Arch := { a with resValid := true, resData := d }

/-- The slot as RECEIVE_BYTE answers it: the byte, or "no data" (41_receive.md R138). -/
def Arch.slotResponse (a : Arch) : Response := if a.resValid then byteResponse a.resData else noData

/-- Performing a command: the architectural registers it leaves, its response on `rsp`, and `rsp_valid` 1
(43_cycle_level.md R198). -/
def State.answer (s : State) (r : Arch × Response) : State :=
  { s with toArch := r.1, rsp := r.2, rspValid := true }

/-- The values on the input ports in this cycle: the schedule's first record, or, where the schedule is over,
no reset, no command and a drawn line level (log entries 2, 3 and 4). -/
def State.portsNow (s : State) : Inputs :=
  match s.inputs with
  | inp :: _ => inp
  | [] => Inputs.silent (Config.irRx s.drawn)

/-- The state with this cycle's port values taken (log entries 2 and 3). -/
def State.portsTaken (s : State) : State :=
  match s.inputs with
  | _ :: rest => { s with inputs := rest }
  | [] => { s with drawn := s.drawn + 1 }

/-- The state in which the host presents the command word `w` in this cycle, the line level of the cycle and
everything the later cycles bring as before (log entry 2). -/
def State.present (s : State) (w : CmdWord) : State :=
  { s.portsTaken with
    inputs :=
      { rst := false, cmdValid := true, cmdOp := w.op, cmdArg := w.arg, irRx := s.portsNow.irRx } ::
        s.portsTaken.inputs }

/-- Synchronous reset: "every register of the block takes the value given in 10_state.md rule R45, whatever the
block was doing" (70_reset_and_hazards.md R250). The configuration and what the outside will present are no
registers of the block and stay (log entries 9 and 12). -/
def State.resetRegisters (s : State) : State :=
  { State.resetAt s.params with inputs := s.inputs, drawn := s.drawn }

end Sys2Proof.Machine
end

