-- ==== Sys2Proof/Machine/Carrier.lean ====
section
/-! DEFINITION. Carrier sense and the arbiter (42_carrier_and_arbiter.md): SET_CARRIER, DETECT_CARRIER; and the
reserved opcode 7 (30_encoding.md R94). -/

namespace Sys2Proof.Machine

/-- Acceptance of SET_CARRIER 1 (R161). -/
def Arch.carrierOn (a : Arch) : Arch := { a with mode := .cs, armed := false, gate := true }

/-- Acceptance of SET_CARRIER 0 (R162); re-arming is unconditional. -/
def Arch.carrierOff (a : Arch) : Arch := { a with mode := .idle, gate := false, armed := true }

/-- SET_CARRIER on the architectural registers (R160): busy in the same two cases for both forms (R161, R162). -/
def Arch.setCarrier (en : Bool) (a : Arch) : Arch × Response :=
  if a.sessionActive then (a, boolResponse false)
  else (if en then a.carrierOn else a.carrierOff, boolResponse true)

/-- DETECT_CARRIER on the architectural registers, with the line level it reads: "true when the line reads
active/low" (R163). It reads the input line, never `gate`. -/
def Arch.detectCarrier (level : Bool) (a : Arch) : Arch × Response := (a, boolResponse (!level))

/-- The reserved opcode 7: `NOCHANGE; respond(0x0000)` (30_encoding.md R94). DESIGN CHOICE, unsafe: the model
runs it, where the spec advises a model to refuse a host that issues it (log entry 6). -/
def Arch.reserved7 (a : Arch) : Arch × Response := (a, 0x0000)

/-- SET_CARRIER en (R160, R161, R162). -/
def execSetCarrier (en : Bool) (s : State) : Host.Outcome State Fault Refusal :=
  .next (s.answer (s.toArch.setCarrier en))

/-- DETECT_CARRIER (R163), "with `LineRead()` = `level`" (43_cycle_level.md R198). -/
def execDetectCarrier (s : State) : Host.Outcome State Fault Refusal :=
  .next (s.answer (s.toArch.detectCarrier s.lineRead))

/-- The reserved opcode 7 (30_encoding.md R94). -/
def execReserved7 (s : State) : Host.Outcome State Fault Refusal :=
  .next (s.answer s.toArch.reserved7)

end Sys2Proof.Machine
end

