-- ==== Sys2Proof/Machine/Receive.lean ====
section
/-! DEFINITION. The receiver (41_receive.md): the internal events EDGE and RX_TICK, AVAILABLE, RECEIVE_BYTE,
IS_RECEIVING. -/

namespace Sys2Proof.Machine

/-- An EDGE is effective when the slot is empty; with a valid slot "the trigger is a no-op" (R130, R131). -/
def Arch.edgeEffective (a : Arch) : Bool := !a.resValid

/-- The start of a receive session (R130). -/
def Arch.startReceive (a : Arch) : Arch :=
  { a with armed := false, rxActive := true, rxAcc := 0, rxCount := 0 }

/-- EDGE (R130, R131). -/
def Arch.edge (a : Arch) : Arch := if a.edgeEffective then a.startReceive else a

/-- Steps 1 to 3 of RX_TICK (R133): the inverted level goes to bit `rxCount` of the accumulator. -/
def Arch.sampleBit (level : Bool) (a : Arch) : Arch :=
  { a with
    rxAcc := a.rxAcc ||| ((BitVec.ofBool (!level)).setWidth 10 <<< a.rxCount.toNat)
    rxCount := a.rxCount + 1 }

/-- The end of a receive session, good or bad: the session is over and its registers are cleared (R134). -/
def Arch.endReceive (a : Arch) : Arch := { a with rxActive := false, rxAcc := 0, rxCount := 0 }

/-- The reject path (R135): the slot is invalid and the trigger armed again. No cause is recorded (R145). -/
def Arch.reject (a : Arch) : Arch := { a.clearSlot with armed := true }

/-- Completion and validation (R134): commit (R136) or reject (R135). -/
def Arch.completeReceive (a : Arch) : Arch :=
  match checkFrame a.rxAcc with
  | .commit cand => a.endReceive.fillSlot cand
  | .rejectParity => a.endReceive.reject
  | .rejectStop => a.endReceive.reject

/-- RX_TICK with the line level it samples (R133): the tenth of a session also completes it (R134). -/
def Arch.rxTick (level : Bool) (a : Arch) : Arch :=
  if (a.sampleBit level).rxCount = BitVec.ofNat 4 Config.rxBits then (a.sampleBit level).completeReceive
  else a.sampleBit level

/-- AVAILABLE on the architectural registers (R137). -/
def Arch.available (a : Arch) : Arch × Response := (a, boolResponse a.resultAvailable)

/-- RECEIVE_BYTE on the architectural registers (R138); the trigger is armed again only in IDLE (R139). -/
def Arch.receiveByte (a : Arch) : Arch × Response :=
  if a.rxActive then (a, noData)
  else ({ a.clearSlot with armed := if a.mode = .idle then true else a.armed }, a.slotResponse)

/-- IS_RECEIVING on the architectural registers (R140). -/
def Arch.isReceiving (a : Arch) : Arch × Response := (a, boolResponse a.rxActive)

/-- AVAILABLE (R137). -/
def execAvailable (s : State) : Host.Outcome State Fault Refusal :=
  .next (s.answer s.toArch.available)

/-- RECEIVE_BYTE (R138, R139). -/
def execReceiveByte (s : State) : Host.Outcome State Fault Refusal :=
  .next (s.answer s.toArch.receiveByte)

/-- IS_RECEIVING (R140). -/
def execIsReceiving (s : State) : Host.Outcome State Fault Refusal :=
  .next (s.answer s.toArch.isReceiving)

end Sys2Proof.Machine
end

