-- ==== Sys2Proof/Machine/Transmit.lean ====
section
/-! DEFINITION. The transmitter (40_transmit.md): SEND, the internal event TX_TICK, IS_SENDING. -/

namespace Sys2Proof.Machine

/-- Acceptance of SEND (R111): the frame is loaded, the trigger disarmed (R116), nothing emitted (R117). -/
def Arch.loadFrame (a : Arch) (b : Byte) : Arch :=
  { a with txShift := frame b, txCount := 0, mode := .tx, armed := false }

/-- SEND on the architectural registers (R111, R112). -/
def Arch.send (b : Byte) (a : Arch) : Arch × Response :=
  if a.sendBusy then (a, boolResponse false) else (a.loadFrame b, boolResponse true)

/-- Completion of a transmit session (R114). -/
def Arch.endTransmit (a : Arch) : Arch := { a with mode := .idle, armed := true, txCount := 0 }

/-- Steps 1 to 3 of TX_TICK (R113): emit bit 0, shift right, count. -/
def Arch.emitBit (a : Arch) : Arch :=
  { a with gate := a.txShift.getLsbD 0, txShift := a.txShift >>> 1, txCount := a.txCount + 1 }

/-- TX_TICK (R113): the twelfth of a session also completes it (R114). -/
def Arch.txTick (a : Arch) : Arch :=
  if a.emitBit.txCount = BitVec.ofNat 4 Config.txBits then a.emitBit.endTransmit else a.emitBit

/-- IS_SENDING on the architectural registers (R115). -/
def Arch.isSending (a : Arch) : Arch × Response := (a, boolResponse a.txActive)

/-- SEND b (R111); "an accepted SEND also does `bpc <- 0`" (43_cycle_level.md R198). -/
def execSend (b : Byte) (s : State) : Host.Outcome State Fault Refusal :=
  .next { s.answer (s.toArch.send b) with bpc := if s.sendBusy then s.bpc else 0 }

/-- IS_SENDING (R115). -/
def execIsSending (s : State) : Host.Outcome State Fault Refusal :=
  .next (s.answer s.toArch.isSending)

end Sys2Proof.Machine
end

