-- ==== Sys2Proof/Machine/Dispatch.lean ====
section
/-! DEFINITION. One arm per command: the command's effect on the state left by the tick and the EDGE of its
cycle (43_cycle_level.md R198). -/

namespace Sys2Proof.Machine

/-- One command, performed (43_cycle_level.md R198). -/
def exec (i : Instr) (s : State) : Host.Outcome State Fault Refusal :=
  match i with
  | .send b => Sys2Proof.Machine.execSend b s
  | .isSending => Sys2Proof.Machine.execIsSending s
  | .available => Sys2Proof.Machine.execAvailable s
  | .receiveByte => Sys2Proof.Machine.execReceiveByte s
  | .isReceiving => Sys2Proof.Machine.execIsReceiving s
  | .setCarrier en => Sys2Proof.Machine.execSetCarrier en s
  | .detectCarrier => Sys2Proof.Machine.execDetectCarrier s
  | .reserved7 => Sys2Proof.Machine.execReserved7 s

end Sys2Proof.Machine
end

