-- ==== Sys2Proof/Machine/Cycle.lean ====
section
/-! DEFINITION. One clock cycle (43_cycle_level.md): the phases of R192, in the configuration of the block
(`State.params`). -/

namespace Sys2Proof.Machine

/-- `fall` = (`prev` = 1 and `s2` = 0), latched in phase 0 (R193, R194). -/
def State.fall (s : State) : Bool := s.prev && !s.s2

/-- The expiry of one bit period: TX_TICK while transmitting, else RX_TICK (R196). -/
def State.tick (level : Bool) (s : State) : State :=
  if s.mode = .tx then { s with toArch := s.toArch.txTick } else { s with toArch := s.toArch.rxTick level }

/-- Phase 1: the settling delay (R195), else the bit-period counter and its tick (R196). The counter's successor is
kept to its width (10_state.md R34). DESIGN CHOICE, unsafe: under a configuration that breaks 00_scope.md R6, where
93_implementation_defined.md U6 leaves the counters undefined, it counts by the same formulas, with `BIT_DIV` - 1 = 0
for `BIT_DIV` = 0 (log entry 22). -/
def State.timerPhase (level : Bool) (s : State) : State :=
  if s.rxActive && decide (0 < s.settle.toNat) then { s with settle := s.settle - 1 }
  else if s.sessionActive then
    if s.bpc.toNat = s.params.bitDiv - 1 then ({ s with bpc := 0 } : State).tick level
    else { s with bpc := s.bpc + 1 }
  else s

/-- Phase 2: an EDGE where the line fell and the trigger is armed; an effective one also starts the settling
delay and clears the bit-period counter (R197). -/
def State.edgePhase (fall : Bool) (s : State) : State :=
  if fall && s.armed then
    if s.edgeEffective then
      { s with toArch := s.toArch.edge, settle := BitVec.ofNat _ s.params.settleDiv, bpc := 0 }
    else { s with toArch := s.toArch.edge }
  else s

/-- Phase 3: the command, if one is presented; without one `rsp_valid` falls and `rsp` keeps its value (R198). -/
def State.commandPhase (inp : Inputs) (s : State) : Host.Outcome State Fault Refusal :=
  if inp.cmdValid then exec (decode inp.word) s else .next { s with rspValid := false }

/-- Phase 4: the carrier phase counter (R199), with `g0` the gate at the start of the cycle, and the
synchroniser (R193). DESIGN CHOICE, unsafe: under a configuration that breaks 00_scope.md R6, where
93_implementation_defined.md U6 leaves the counters undefined, it counts by the same formula, with n mod 0 = n kept to
the width for `CARRIER_DIV` = 0 (log entry 22). -/
def State.carrierSyncPhase (g0 : Bool) (irRx : Bool) (s : State) : State :=
  { s with
    cph := if g0 && s.gate then BitVec.ofNat _ ((s.cph.toNat + 1) % s.params.carrierDiv) else 0
    prev := s.s2
    s2 := s.s1
    s1 := irRx }

/-- One clock cycle with the given values on the input ports (R190, R192). DESIGN CHOICE, unsafe: a block whose
configuration breaks 00_scope.md R6 runs too, where 93_implementation_defined.md U6 advises a model to refuse it (log
entry 22). -/
def cycle (inp : Inputs) (s : State) : Host.Outcome State Fault Refusal :=
  if inp.rst then .next s.resetRegisters
  else
    match ((s.timerPhase s.lineRead).edgePhase s.fall).commandPhase inp with
    | .next t => .next (t.carrierSyncPhase s.gate inp.irRx)
    | .fault f => .fault f
    | .refused r => .refused r

/-- Consecutive clock cycles, one for each record of port values. -/
def cycles : List Inputs → State → Host.Outcome State Fault Refusal
  | [], s => .next s
  | inp :: rest, s =>
    match cycle inp s with
    | .next t => cycles rest t
    | .fault f => .fault f
    | .refused r => .refused r

end Sys2Proof.Machine
end

