-- ==== Sys2Proof/Machine/Step.lean ====
section
/-! DEFINITION. One step of the machine: one clock cycle (43_cycle_level.md R192) with what stands on the input
ports, in the configuration of the block (log entries 1 and 9). -/

namespace Sys2Proof.Machine

/-- One clock cycle. It has no outcome but a next state: the block never traps (60_exceptions.md R220). That a block of
an ill-formed configuration runs too is the model's choice (log entry 22); none is reached from `State.reset`. -/
def step (s : State) : Host.Outcome State Fault Refusal :=
  cycle s.portsNow s.portsTaken

/-- The state in which the opcode-table word `w` stands on the command port in the coming cycle: `cmd_valid` 1
and the word on `cmd_op` and `cmd_arg` (30_encoding.md R88). A number that is no 11-bit word cannot stand there
and changes nothing (log entry 10). -/
def State.withFetchWord (s : State) (nbits w : Nat) : State :=
  match decodeNat (w % 2 ^ nbits) with
  | .ok _ => s.present (BitVec.ofNat 11 (w % 2 ^ nbits))
  | .error _ => s

end Sys2Proof.Machine
end

