-- ==== Sys2Proof/Machine/Event.lean ====
section
/-! DEFINITION. The event level: "a labelled transition system over the state of 10_state.md rule R20 whose
labels are the ten operations" (20_memory.md R70), which is the normative level (00_scope.md R8). The clock
cycle of Machine/Cycle.lean performs a sequence of these events (43_cycle_level.md R202). -/

namespace Sys2Proof.Machine

/-- A label of the event level: a command, or one of the three internal events (30_encoding.md R99), with the
line level where the operation reads it (20_memory.md R61). -/
inductive Event where
  /-- A host command; `level` is what a `LineRead()` of it returns. -/
  | command (i : Instr) (level : Bool)
  /-- EDGE (41_receive.md R130). -/
  | edge
  /-- TX_TICK (40_transmit.md R113). -/
  | txTick
  /-- RX_TICK with the level it samples (41_receive.md R133). -/
  | rxTick (level : Bool)
deriving DecidableEq, Repr

/-- A command on the architectural registers, with the response it gives. -/
def Arch.command (i : Instr) (level : Bool) (a : Arch) : Arch × Response :=
  match i with
  | .send b => a.send b
  | .isSending => a.isSending
  | .available => a.available
  | .receiveByte => a.receiveByte
  | .isReceiving => a.isReceiving
  | .setCarrier en => a.setCarrier en
  | .detectCarrier => a.detectCarrier level
  | .reserved7 => a.reserved7

/-- When an event may occur: a command always (60_exceptions.md R234, R238), EDGE iff the trigger is armed
(41_receive.md R130; the line's fall is the environment's, log entry 20), TX_TICK iff `mode` = TX
(40_transmit.md R113), RX_TICK iff a session is active (41_receive.md R133). -/
def Event.enabled (e : Event) (a : Arch) : Bool :=
  match e with
  | .command _ _ => true
  | .edge => a.armed
  | .txTick => a.txActive
  | .rxTick _ => a.rxActive

/-- The architectural registers an event leaves. -/
def Event.apply (e : Event) (a : Arch) : Arch :=
  match e with
  | .command i level => (a.command i level).1
  | .edge => a.edge
  | .txTick => a.txTick
  | .rxTick level => a.rxTick level

/-- The response an event gives: "every command responds exactly once" (00_scope.md R10), internal events
never. -/
def Event.response (e : Event) (a : Arch) : Option Response :=
  match e with
  | .command i level => some (a.command i level).2
  | .edge => none
  | .txTick => none
  | .rxTick _ => none

/-- A finite run of the event level: the registers after the events, or none where one is not enabled. The infinite
behaviours, and the weak fairness of the ticks in them, are in Machine/Fairness.lean. -/
def Arch.run : List Event → Arch → Option Arch
  | [], a => some a
  | e :: rest, a => if e.enabled a then Arch.run rest (e.apply a) else none

/-- The named outcomes of a command (60_exceptions.md R223). -/
inductive CommandOutcome where
  /-- `OK`: true or a byte. -/
  | ok
  /-- `BUSY`: false from SEND or SET_CARRIER. -/
  | busy
  /-- `NODATA`: `0xFFFF` from RECEIVE_BYTE. -/
  | noData
deriving DecidableEq, Repr

/-- The outcome R223 names for a command and its response; a query's false has no name there. -/
def commandOutcome (i : Instr) (r : Response) : Option CommandOutcome :=
  match i with
  | .send _ => if r = boolResponse true then some .ok else some .busy
  | .setCarrier _ => if r = boolResponse true then some .ok else some .busy
  | .receiveByte => if r = noData then some .noData else some .ok
  | .isSending => if r = boolResponse true then some .ok else none
  | .available => if r = boolResponse true then some .ok else none
  | .isReceiving => if r = boolResponse true then some .ok else none
  | .detectCarrier => if r = boolResponse true then some .ok else none
  | .reserved7 => none

end Sys2Proof.Machine
end

