-- ==== Sys2Proof/Machine/Fairness.lean ====
section
/-! DEFINITION. Infinite behaviours of the event level, and what is owed in them: the weak fairness of the timer
(60_exceptions.md R227, R238; 92_eei_decisions.md D28), "which is all the event level says about time", and the duties
of the host (R238). Log entry 17. -/

namespace Sys2Proof.Machine

/-- An infinite behaviour of the event level, by its first registers and what happens at each moment. At a moment with
`none` nothing happens: the host and the environment may be silent for a while or for ever, and so may the timer as far
as this type goes; that an enabled tick may not be put off for ever is `Behaviour.fair`. DEDUCED (log entry 17): R227 and
R238 name weak fairness and do not define the behaviours it is said of. -/
structure Behaviour where
  /-- The architectural registers at moment 0. -/
  start : Arch
  /-- The event of each moment, if one happens. -/
  event : Nat → Option Event

/-- The architectural registers at each moment. -/
def Behaviour.state (b : Behaviour) : Nat → Arch
  | 0 => b.start
  | n + 1 =>
    match b.event n with
    | none => b.state n
    | some e => e.apply (b.state n)

/-- Every event that happens may happen where it does: TX_TICK and RX_TICK "are enabled exactly under those conditions"
(60_exceptions.md R227). -/
def Behaviour.possible (b : Behaviour) : Prop :=
  ∀ n e, b.event n = some e → e.enabled (b.state n) = true

/-- TX_TICK, the timer's event while `mode` = TX (60_exceptions.md R227). -/
def Event.isTxTick (e : Event) : Bool :=
  match e with
  | .txTick => true
  | .command _ _ => false
  | .edge => false
  | .rxTick _ => false

/-- RX_TICK, at whatever level it samples: the timer's event while `rxActive` = 1 (60_exceptions.md R227). -/
def Event.isRxTick (e : Event) : Bool :=
  match e with
  | .rxTick _ => true
  | .command _ _ => false
  | .edge => false
  | .txTick => false

/-- Weak fairness of a kind of event (60_exceptions.md R227, R238): if from some moment on it is enabled without end,
then it happens at that moment or later. DEDUCED: the usual meaning of the word (log entry 17). -/
def Behaviour.weaklyFair (isKind : Event → Bool) (b : Behaviour) : Prop :=
  ∀ n, (∀ m, n ≤ m → ∃ e, isKind e = true ∧ e.enabled (b.state m) = true) →
    ∃ m e, n ≤ m ∧ b.event m = some e ∧ isKind e = true

/-- The behaviours of the link at the event level: nothing happens that may not, and the timer "is weakly fair: an
enabled tick eventually happens" (60_exceptions.md R238, R227). EDGE and commands are owed by nobody: the environment and
the host decide on them (R238, 92_eei_decisions.md D28). -/
def Behaviour.fair (b : Behaviour) : Prop :=
  b.possible ∧ b.weaklyFair Event.isTxTick ∧ b.weaklyFair Event.isRxTick

/-- The duties of the host (60_exceptions.md R238): it never issues opcode 7 (30_encoding.md R94), and, "for liveness of
reception", it eventually issues RECEIVE_BYTE when a result is pending (70_reset_and_hazards.md R256). No part of
`Behaviour.fair`: the host owes the link nothing for safety. -/
def Behaviour.hostKeepsDuties (b : Behaviour) : Prop :=
  (∀ n i level, b.event n = some (.command i level) → i.wellFormed = true) ∧
  (∀ n, (b.state n).resultAvailable = true → ∃ m level, n ≤ m ∧ b.event m = some (.command .receiveByte level))

/-- How many events of a kind happen in the `k` moments from moment `n` on. -/
def Behaviour.countFrom (isKind : Event → Bool) (b : Behaviour) (n : Nat) : Nat → Nat
  | 0 => 0
  | k + 1 => b.countFrom isKind n k + (if (b.event (n + k)).any isKind then 1 else 0)

end Sys2Proof.Machine
end

