-- ==== Sys2Proof/Machine/Outputs.lean ====
section
/-! DEFINITION. The output ports (10_state.md R35): combinational functions of the registers. -/

namespace Sys2Proof.Machine

/-- The output ports in one clock cycle (R35). -/
structure Outputs where
  /-- `rsp_valid`: 1 in the cycle after a command. -/
  rspValid : Bool
  /-- `rsp`: the response word of that command. -/
  rsp : Response
  /-- `ir_tx`: the emitter drive. -/
  irTx : Bool
  /-- `tx_busy`. -/
  txBusy : Bool
  /-- `rx_busy`. -/
  rxBusy : Bool
  /-- `rx_avail`. -/
  rxAvail : Bool
deriving DecidableEq, Repr

/-- `ir_tx = 1 iff gate = 1 and cph < CARRIER_DIV / 2` (43_cycle_level.md R200). -/
def State.irTx (s : State) : Bool := s.gate && decide (s.cph.toNat < s.params.carrierDiv / 2)

/-- The output ports of a state: `ir_tx` by 43_cycle_level.md R200, the status outputs by R201, the response
by R198. -/
def State.outputs (s : State) : Outputs :=
  { rspValid := s.rspValid
    rsp := s.rsp
    irTx := s.irTx
    txBusy := s.txActive
    rxBusy := s.rxActive
    rxAvail := s.resultAvailable }

end Sys2Proof.Machine
end

