-- ==== Sys2Proof/Machine/Pair.lean ====
section
/-! DEFINITION. Two links over the ideal channel of 60_exceptions.md R237: "a test fixture, not a property of
any real detector" (log entry 15). -/

namespace Sys2Proof.Machine

/-- Two links, clocked together (43_cycle_level.md R205). -/
structure Pair where
  /-- Link A. -/
  linkA : State
  /-- Link B. -/
  linkB : State
deriving DecidableEq, Repr

/-- One clock cycle of both links: "the value of `ir_rx` sampled at the end of cycle n is the complement of the
other link's `gate` in cycle n" (R237). The levels of the two given records are not read. -/
def pairCycle (ia ib : Inputs) (x : Pair) : Host.Outcome Pair Fault Refusal :=
  match cycle { ia with irRx := !x.linkB.gate } x.linkA with
  | .next a =>
    match cycle { ib with irRx := !x.linkA.gate } x.linkB with
    | .next b => .next { linkA := a, linkB := b }
    | .fault f => .fault f
    | .refused r => .refused r
  | .fault f => .fault f
  | .refused r => .refused r

/-- Consecutive clock cycles of both links. -/
def pairCycles : List (Inputs × Inputs) → Pair → Host.Outcome Pair Fault Refusal
  | [], x => .next x
  | io :: rest, x =>
    match pairCycle io.1 io.2 x with
    | .next y => pairCycles rest y
    | .fault f => .fault f
    | .refused r => .refused r

end Sys2Proof.Machine
end

