-- ==== Sys2Proof/Safety.lean ====
section
/-! DEFINITION. What counts as a safe state, in the terms the statements use: the invariants of 10_state.md
section 7, the ranges of the cycle-level registers (R34), and the words for schedules and line levels. -/

namespace Sys2Proof.Machine

/-- The architectural invariants of 10_state.md R36 to R44. "They are consequences, not extra rules of
behaviour; a model should prove them, not assume them." -/
structure Arch.Inv (a : Arch) : Prop where
  /-- R36: at most one of `txActive`, `rxActive`, `csActive`. -/
  oneOwner : ¬ (a.mode = .tx ∧ a.rxActive = true) ∧ ¬ (a.mode = .cs ∧ a.rxActive = true)
  /-- R37. -/
  receivingInIdle : a.rxActive = true → a.mode = .idle
  /-- R38. -/
  armedInIdle : a.armed = true → a.mode = .idle ∧ a.rxActive = false
  /-- R39. -/
  receivingSlotEmpty : a.rxActive = true → a.resValid = false
  /-- R40. -/
  idleListens : a.mode = .idle → a.rxActive = false → a.resValid = false → a.armed = true
  /-- R41, the steady modes. -/
  gateInMode : (a.mode = .cs → a.gate = true) ∧ (a.mode = .idle → a.gate = false)
  /-- R42, outside a transmit session. -/
  transmitterClear : a.mode ≠ .tx → a.txShift = 0 ∧ a.txCount = 0
  /-- R41 and R42 in a transmit session: some byte's frame is being shifted out, and `gate` is the frame bit last
  emitted, 0 before the first tick. -/
  transmitting : a.mode = .tx → a.txCount ≤ 11 ∧ ∃ b : Byte, a.txShift = frame b >>> a.txCount.toNat ∧
    a.gate = (if a.txCount = 0 then false else (frame b).getLsbD (a.txCount.toNat - 1))
  /-- R43, outside a receive session. -/
  receiverClear : a.rxActive = false → a.rxAcc = 0 ∧ a.rxCount = 0
  /-- R43 in a receive session. -/
  receiving : a.rxActive = true → a.rxCount ≤ 9 ∧ a.rxAcc.toNat < 2 ^ a.rxCount.toNat
  /-- R44. -/
  slotClear : a.resValid = false → a.resData = 0

/-- The invariants of the whole state: a legal configuration (00_scope.md R6), R36 to R44, the ranges of the
counters (R34), the carrier phase at rest while the gate is off (43_cycle_level.md R199), no settling delay outside a
receive session or after its first sample (R195), and the response words that exist (30_encoding.md R92, R93). -/
structure State.Inv (s : State) : Prop where
  /-- 00_scope.md R6. -/
  legal : s.params.wellFormed = true
  /-- R36 to R44. -/
  arch : s.toArch.Inv
  /-- R34: 0 to `BIT_DIV` - 1. -/
  bpcRange : s.bpc.toNat < s.params.bitDiv
  /-- R34, R195. -/
  settleRange : s.settle.toNat ≤ s.params.settleDiv
  /-- R34: 0 to `CARRIER_DIV` - 1. -/
  cphRange : s.cph.toNat < s.params.carrierDiv
  /-- R199. -/
  phaseAtRest : s.gate = false → s.cph.toNat = 0
  /-- R195, R197: the delay belongs to a session that has sampled nothing. -/
  settleInSession : 0 < s.settle.toNat → s.rxActive = true ∧ s.rxCount = 0 ∧ s.bpc.toNat = 0
  /-- R92, R93: "Values `0x0100` to `0xFFFE` are never produced". -/
  responseRange : s.rsp.toNat < 0x100 ∨ s.rsp = 0xFFFF

/-- No record of the schedule asserts `rst`. -/
def noReset (ins : List Inputs) : Prop := ∀ inp ∈ ins, inp.rst = false

/-- No record of the schedule presents a command. -/
def noCommand (ins : List Inputs) : Prop := ∀ inp ∈ ins, inp.cmdValid = false

/-- The synchronised level `LineRead()` returns in the j-th cycle, counting from 0, of a run from `s` under the
schedule `ins`: "in cycle n, `s2` is `ir_rx` as sampled at the end of cycle n - 2" (43_cycle_level.md R193). -/
def lineSeen (s : State) (ins : List Inputs) (j : Nat) : Bool :=
  (s.s2 :: s.s1 :: ins.map Inputs.irRx).getD j true

/-- The values `gate` takes after each of `n` TX_TICK from the registers `a` (40_transmit.md R118). -/
def gatesOf : Nat → Arch → List Bool
  | 0, _ => []
  | n + 1, a => a.txTick.gate :: gatesOf n a.txTick

/-- The number of bits set among the low `n` bits of a word. -/
def onesBelow {w : Nat} (n : Nat) (v : BitVec w) : Nat := ((List.range n).filter (fun i => v.getLsbD i)).length

/-- The accumulator built "as a true shift register that shifts right and inserts each sample at bit 9"
(41_receive.md R142). -/
def shiftSample (bit : Bool) (acc : RxWord) : RxWord := (acc >>> 1) ||| ((BitVec.ofBool bit).setWidth 10 <<< 9)

/-- The five flags of a state, as 10_state.md section 7 lists them: `mode`, `rxActive`, `armed`, `resValid`,
`gate`. -/
def Arch.flags (a : Arch) : Mode × Bool × Bool × Bool × Bool := (a.mode, a.rxActive, a.armed, a.resValid, a.gate)

/-- The ten combinations of the flags that 10_state.md section 7 lists as reachable. -/
def reachableFlags : List (Mode × Bool × Bool × Bool × Bool) :=
  [(.idle, false, true, false, false), (.idle, false, true, true, false), (.idle, false, false, true, false),
    (.idle, true, false, false, false), (.tx, false, false, false, false), (.tx, false, false, false, true),
    (.tx, false, false, true, false), (.tx, false, false, true, true), (.cs, false, false, false, true),
    (.cs, false, false, true, true)]

/-- The schedule of an end-to-end transfer of `n` cycles: link A's host presents SEND `b` in the first cycle,
and nothing else happens on either link's ports. -/
def sendSchedule (b : Byte) (n : Nat) : List (Inputs × Inputs) :=
  ({ rst := false, cmdValid := true, cmdOp := 0, cmdArg := b, irRx := true }, Inputs.silent true) ::
    List.replicate (n - 1) (Inputs.silent true, Inputs.silent true)

end Sys2Proof.Machine
end

