-- ==== Sys2Proof/Certificates/Slice0/Obligations.lean ====
section
/-! DEFINITION. The statements for the provers. Each docstring says which rule of spec/ it formalises. A statement about
every state speaks of every configuration, unless it asks for a legal one: what it says of a configuration that breaks
00_scope.md R6 is the MODEL's choice (log entry 22, 93_implementation_defined.md U6), not the rule's. -/

open Sys2Proof Sys2Proof.Machine

/-! ### Reset and the frame -/

/-- 10_state.md R45: the reset value of every register of the block. -/
def Obligations.ResetLeavesLinkListening : Prop :=
  State.reset.mode = .idle ∧ State.reset.armed = true ∧ State.reset.rxActive = false ∧
  State.reset.resValid = false ∧ State.reset.resData = 0 ∧ State.reset.txShift = 0 ∧ State.reset.txCount = 0 ∧
  State.reset.rxAcc = 0 ∧ State.reset.rxCount = 0 ∧ State.reset.gate = false ∧
  State.reset.s1 = true ∧ State.reset.s2 = true ∧ State.reset.prev = true ∧
  State.reset.bpc = 0 ∧ State.reset.settle = 0 ∧ State.reset.cph = 0 ∧
  State.reset.rsp = 0 ∧ State.reset.rspValid = false

/-- 30_encoding.md R82: `frame(b)` by its formula, its bounds, its guard bit and the rule's example. -/
def Obligations.FrameIsTheTwelveBitsOfR82 : Prop :=
  (∀ b : Byte,
    frame b = 1 ||| (b.setWidth 12 <<< 1) ||| ((BitVec.ofBool (parity8 b)).setWidth 12 <<< 9) ||| (1 <<< 10) ∧
    (frame b).getLsbD 11 = false ∧ 0x401 ≤ (frame b).toNat ∧ (frame b).toNat ≤ 0x7FD) ∧
  frame 0x00 = 0x401 ∧ frame 0xFE = 0x7FD ∧ frame 0x53 = 0x4A7

/-- 30_encoding.md R83: `parity8` is the exclusive or of the eight bits, 1 iff the number of set bits is odd, with
the rule's examples. -/
def Obligations.ParityIsOneIffOddlyManyBits : Prop :=
  (∀ b : Byte,
    parity8 b = (b.getLsbD 0 ^^ b.getLsbD 1 ^^ b.getLsbD 2 ^^ b.getLsbD 3 ^^
      b.getLsbD 4 ^^ b.getLsbD 5 ^^ b.getLsbD 6 ^^ b.getLsbD 7) ∧
    (parity8 b = true ↔ onesBelow 8 b % 2 = 1)) ∧
  parity8 0x00 = false ∧ parity8 0x01 = true ∧ parity8 0x53 = false ∧ parity8 0xFF = false ∧ parity8 0x7F = true

/-! ### Commands: result, frame and completion -/

/-- 40_transmit.md R111: SEND, both branches, every register (the state is written out whole), its encoding, and
TX_TICK enabled exactly while `mode` = TX. -/
def Obligations.SendLoadsFrameOrIsBusy : Prop :=
  ∀ (b : Byte) (s : State),
    (∀ w : CmdWord, w.extractLsb' 8 3 = 0 → w.extractLsb' 0 8 = b → decode w = .send b) ∧
    (s.mode ≠ .idle ∨ s.rxActive = true →
      exec (.send b) s = .next { s with rsp := 0x0000, rspValid := true }) ∧
    (s.mode = .idle → s.rxActive = false →
      exec (.send b) s = .next
        { s with
          txShift := frame b, txCount := 0, mode := .tx, armed := false,
          bpc := 0, rsp := 0x0001, rspValid := true }) ∧
    (Event.txTick.enabled s.toArch = true ↔ s.mode = .tx)

/-- 40_transmit.md R115: IS_SENDING changes nothing and answers whether `mode` = TX. -/
def Obligations.IsSendingAnswersTransmitMode : Prop :=
  ∀ s : State,
    (∀ w : CmdWord, w.extractLsb' 8 3 = 1 → decode w = .isSending) ∧
    exec .isSending s = .next
      { s with rsp := if s.mode = .tx then 0x0001 else 0x0000, rspValid := true }

/-- 41_receive.md R137: AVAILABLE changes nothing and answers whether a result is pending outside a session,
whatever `mode` is. -/
def Obligations.AvailableAnswersPendingResult : Prop :=
  ∀ s : State,
    (∀ w : CmdWord, w.extractLsb' 8 3 = 2 → decode w = .available) ∧
    exec .available s = .next
      { s with rsp := if s.resValid = true ∧ s.rxActive = false then 0x0001 else 0x0000, rspValid := true }

/-- 41_receive.md R138: RECEIVE_BYTE, all branches, every register; a second call answers "no data". -/
def Obligations.ReceiveByteReturnsAndEmptiesSlot : Prop :=
  ∀ s : State,
    (∀ w : CmdWord, w.extractLsb' 8 3 = 3 → decode w = .receiveByte) ∧
    (s.rxActive = true → exec .receiveByte s = .next { s with rsp := 0xFFFF, rspValid := true }) ∧
    (s.rxActive = false →
      exec .receiveByte s = .next
        { s with
          resValid := false, resData := 0,
          armed := if s.mode = .idle then true else s.armed,
          rsp := if s.resValid = true then s.resData.setWidth 16 else 0xFFFF, rspValid := true }) ∧
    (∀ t, exec .receiveByte s = .next t → ∃ u, exec .receiveByte t = .next u ∧ u.rsp = 0xFFFF ∧ u.toArch = t.toArch)

/-- 41_receive.md R140: IS_RECEIVING changes nothing and answers whether a session is active. -/
def Obligations.IsReceivingAnswersSession : Prop :=
  ∀ s : State,
    (∀ w : CmdWord, w.extractLsb' 8 3 = 4 → decode w = .isReceiving) ∧
    exec .isReceiving s = .next
      { s with rsp := if s.rxActive = true then 0x0001 else 0x0000, rspValid := true }

/-- 42_carrier_and_arbiter.md R161: SET_CARRIER 1, both branches, every register; and, as the rule says, the
carrier stays on until SET_CARRIER 0: no other event that may occur changes `mode` or `gate` in CS. -/
def Obligations.SetCarrierOnHoldsCarrierOrIsBusy : Prop :=
  ∀ s : State,
    (∀ w : CmdWord, w.extractLsb' 8 3 = 5 → w.getLsbD 0 = true → decode w = .setCarrier true) ∧
    (s.mode = .tx ∨ s.rxActive = true →
      exec (.setCarrier true) s = .next { s with rsp := 0x0000, rspValid := true }) ∧
    (s.mode ≠ .tx → s.rxActive = false →
      exec (.setCarrier true) s = .next
        { s with mode := .cs, armed := false, gate := true, rsp := 0x0001, rspValid := true }) ∧
    (s.toArch.Inv → s.mode = .cs → ∀ e : Event, e.enabled s.toArch = true →
      (∀ level, e ≠ .command (.setCarrier false) level) →
      (e.apply s.toArch).mode = .cs ∧ (e.apply s.toArch).gate = true)

/-- 42_carrier_and_arbiter.md R162: SET_CARRIER 0, both branches, every register. -/
def Obligations.SetCarrierOffReturnsToListeningOrIsBusy : Prop :=
  ∀ s : State,
    (∀ w : CmdWord, w.extractLsb' 8 3 = 5 → w.getLsbD 0 = false → decode w = .setCarrier false) ∧
    (s.mode = .tx ∨ s.rxActive = true →
      exec (.setCarrier false) s = .next { s with rsp := 0x0000, rspValid := true }) ∧
    (s.mode ≠ .tx → s.rxActive = false →
      exec (.setCarrier false) s = .next
        { s with mode := .idle, gate := false, armed := true, rsp := 0x0001, rspValid := true })

/-- 42_carrier_and_arbiter.md R163: DETECT_CARRIER changes nothing and answers the complement of the synchronised
line level, in every state. -/
def Obligations.DetectCarrierAnswersLineLow : Prop :=
  ∀ s : State,
    (∀ w : CmdWord, w.extractLsb' 8 3 = 6 → decode w = .detectCarrier) ∧
    exec .detectCarrier s = .next
      { s with rsp := if s.s2 = false then 0x0001 else 0x0000, rspValid := true }

/-- 30_encoding.md R94: the reserved opcode 7 changes nothing and answers 0x0000. The MODEL's choice is to run it
(log entry 6): the same rule says "a model should refuse a host that issues it rather than rely on this". -/
def Obligations.ReservedOpcodeChangesNothing : Prop :=
  ∀ s : State,
    (∀ w : CmdWord, w.extractLsb' 8 3 = 7 → decode w = .reserved7) ∧
    exec .reserved7 s = .next { s with rsp := 0x0000, rspValid := true }

/-- The range of responses: of 30_encoding.md R92 that a bool response has no third value, of R93 that RECEIVE_BYTE
answers a zero-extended byte or `0xFFFF`, of R94 that opcode 7 answers `0x0000`. That opcode 7 runs at all is the
MODEL's choice (log entry 6), where R94 and U1 advise a model to refuse it. Which value is true and which false is
each command's own statement. -/
def Obligations.ResponsesAreBoolsBytesOrNoData : Prop :=
  ∀ (i : Instr) (s : State), ∃ t, exec i s = .next t ∧ t.rspValid = true ∧
    (i ≠ .receiveByte → t.rsp = 0x0001 ∨ t.rsp = 0x0000) ∧
    (i = .receiveByte → t.rsp = 0xFFFF ∨ ∃ d : Byte, t.rsp = d.setWidth 16)

/-! ### Encoding -/

/-- Decode and encode agree on every command, and every word is the encoding of the command it decodes to but for
its ignored bits (30_encoding.md R88, R89, R90, R95). -/
def Obligations.DecodeEncodeAgree : Prop :=
  (∀ i : Instr, decode (encode i) = i) ∧ (∀ w : CmdWord, encode (decode w) = clearIgnored w)

/-- Words written out from the spec decode to the commands they stand for (30_encoding.md R89, 95_test_vectors.md
section 0 and V8). -/
def Obligations.SpecWordsDecode : Prop :=
  decode 0b00001010011 = .send 0x53 ∧ decode 0b00100000000 = .isSending ∧ decode 0b01000000000 = .available ∧
  decode 0b01100000000 = .receiveByte ∧ decode 0b10000000000 = .isReceiving ∧
  decode 0b10100000001 = .setCarrier true ∧ decode 0b10111111111 = .setCarrier true ∧
  decode 0b10111111110 = .setCarrier false ∧ decode 0b11000000000 = .detectCarrier ∧
  decode 0b11100000000 = .reserved7

/-- 30_encoding.md R95: "Ignored argument bits are truly ignored: they do not change the response or the state". -/
def Obligations.IgnoredBitsChangeNothing : Prop :=
  ∀ (w : CmdWord) (s : State),
    (w.extractLsb' 8 3 ≠ 0 → w.extractLsb' 8 3 ≠ 5 → ∀ v : CmdWord, v.extractLsb' 8 3 = w.extractLsb' 8 3 →
      exec (decode v) s = exec (decode w) s) ∧
    (w.extractLsb' 8 3 = 5 → ∀ v : CmdWord, v.extractLsb' 8 3 = 5 → v.getLsbD 0 = w.getLsbD 0 →
      exec (decode v) s = exec (decode w) s)

/-! ### One step -/

/-- A step runs the command presented: with a command on the port and no reset, `step` is phase 4 after `exec` of
the decoded command on the state left by phases 1 and 2 (43_cycle_level.md R192, R198). -/
def Obligations.StepRunsThePresentedCommand : Prop :=
  ∀ (s : State) (inp : Inputs) (rest : List Inputs) (i : Instr) (t : State),
    s.inputs = inp :: rest → inp.rst = false → inp.cmdValid = true → decode (inp.cmdOp ++ inp.cmdArg) = i →
    exec i ((({ s with inputs := rest } : State).timerPhase s.s2).edgePhase
      (s.prev && !s.s2)) = .next t →
    step s = .next (t.carrierSyncPhase s.gate inp.irRx)

/-- 43_cycle_level.md R198, its other half: with `cmd_valid` = 0, `rsp_valid` falls and `rsp` keeps its value;
whatever `cmd_op` and `cmd_arg` are. That the step takes one record of the model's own field `inputs` and keeps the rest
is the MODEL's choice (log entry 2). -/
def Obligations.StepWithoutCommandKeepsResponse : Prop :=
  ∀ (s : State) (inp : Inputs) (rest : List Inputs),
    s.inputs = inp :: rest → inp.rst = false → inp.cmdValid = false →
    step s = .next
      (({ ((({ s with inputs := rest } : State).timerPhase s.s2).edgePhase
          (s.prev && !s.s2)) with rspValid := false } : State).carrierSyncPhase s.gate inp.irRx) ∧
    ∃ t, step s = .next t ∧ t.rsp = s.rsp ∧ t.rspValid = false ∧ t.inputs = rest

/-- 70_reset_and_hazards.md R250: with `rst` = 1 every register takes its reset value, whatever the block was
doing and whatever else is on the ports. That the model's own fields `inputs` (less the record taken) and `drawn` stay
is the MODEL's choice (log entry 12): they are no registers of the block. Nor is the configuration `params` (log entry
9). -/
def Obligations.StepUnderResetIsReset : Prop :=
  ∀ (s : State) (inp : Inputs) (rest : List Inputs),
    s.inputs = inp :: rest → inp.rst = true →
    step s = .next { State.resetAt s.params with inputs := rest, drawn := s.drawn }

/-- The MODEL's choice (log entries 3 and 4): with the schedule over, a step is that of a cycle with no reset, no
command and a drawn line level, whatever number of levels has been drawn before. -/
def Obligations.StepAfterScheduleDrawsLine : Prop :=
  ∀ s : State, s.inputs = [] →
    step s = step { s with inputs := [Inputs.silent (Config.irRx s.drawn)], drawn := s.drawn + 1 }

/-- 60_exceptions.md R220: "No operation is fatal": every step of every state has a next state. That no step is
refused, opcode 7 and an ill-formed configuration included, is the MODEL's choice (log entries 6, 16 and 22):
30_encoding.md R94 and U1 advise a model to refuse a host that issues opcode 7, and U6 to refuse such a configuration. -/
def Obligations.EveryStepHasANextState : Prop := ∀ s : State, ∃ t, step s = .next t

/-! ### Internal events -/

/-- 40_transmit.md R113: TX_TICK is enabled iff `mode` = TX, the timer issues it once a bit period while enabled,
and it emits, shifts and counts; on the twelfth it also ends the session (R114). Every register. That the timer's clauses
hold of an ill-formed configuration too is the MODEL's choice (log entry 22). -/
def Obligations.TxTickEmitsOneBit : Prop :=
  (∀ a : Arch,
    (Event.txTick.enabled a = true ↔ a.mode = .tx) ∧
    (a.txCount + 1 ≠ 12 → a.txTick =
      { a with gate := a.txShift.getLsbD 0, txShift := a.txShift >>> 1, txCount := a.txCount + 1 }) ∧
    (a.txCount + 1 = 12 → a.txTick =
      { a with
        gate := a.txShift.getLsbD 0, txShift := a.txShift >>> 1, txCount := 0, mode := .idle, armed := true })) ∧
  (∀ (level : Bool) (s : State), s.mode = .tx → s.rxActive = false →
    (s.bpc.toNat = s.params.bitDiv - 1 → s.timerPhase level = { s with toArch := s.toArch.txTick, bpc := 0 }) ∧
    (s.bpc.toNat ≠ s.params.bitDiv - 1 → s.timerPhase level = { s with bpc := s.bpc + 1 }))

/-- 40_transmit.md R114: in every legal state the twelfth TX_TICK emits the guard bit 0, empties the shift register
and returns to Idle-Receiving with the trigger armed, whether or not a result is pending. -/
def Obligations.TwelfthTxTickEndsSession : Prop :=
  ∀ a : Arch, a.Inv → a.mode = .tx → a.txCount = 11 →
    a.txTick = { a with gate := false, txShift := 0, txCount := 0, mode := .idle, armed := true }

/-- 41_receive.md R130: EDGE is performed iff the line falls while the trigger is armed; with a valid slot it
changes nothing, else it starts a session, and at the cycle level the settling delay. Every register. The first clause,
that the EVENT LEVEL's edge may occur iff `armed` = 1, is the MODEL's reading (log entry 20, DEDUCED from
92_eei_decisions.md D28 and 93_implementation_defined.md U5): R130's falling edge is there the environment's. -/
def Obligations.EdgeStartsASession : Prop :=
  ∀ (fall : Bool) (s : State),
    (Event.edge.enabled s.toArch = true ↔ s.armed = true) ∧
    (fall = false ∨ s.armed = false → s.edgePhase fall = s) ∧
    (fall = true → s.armed = true → s.resValid = true → s.edgePhase fall = s ∧ s.toArch.edge = s.toArch) ∧
    (fall = true → s.armed = true → s.resValid = false →
      s.edgePhase fall =
        { s with
          armed := false, rxActive := true, rxAcc := 0, rxCount := 0,
          settle := BitVec.ofNat _ s.params.settleDiv, bpc := 0 } ∧
      (s.edgePhase fall).settle.toNat = s.params.settleDiv ∧
      s.toArch.edge = { s.toArch with armed := false, rxActive := true, rxAcc := 0, rxCount := 0 })

/-- 41_receive.md R133: RX_TICK before the tenth samples the complement of the line at bit `rxCount`; it is enabled
iff a session is active, and the timer issues it once a bit period after the settling delay (43_cycle_level.md
R195, R196). Every register. That the timer's clauses hold of an ill-formed configuration too is the MODEL's choice (log
entry 22). -/
def Obligations.RxTickSamplesOneBit : Prop :=
  (∀ (level : Bool) (a : Arch),
    ((Event.rxTick level).enabled a = true ↔ a.rxActive = true) ∧
    (a.rxCount + 1 ≠ 10 → a.rxTick level =
      { a with
        rxAcc := a.rxAcc ||| ((BitVec.ofBool (!level)).setWidth 10 <<< a.rxCount.toNat)
        rxCount := a.rxCount + 1 })) ∧
  (∀ (level : Bool) (s : State), s.mode = .idle → s.rxActive = true →
    (0 < s.settle.toNat → s.timerPhase level = { s with settle := s.settle - 1 }) ∧
    (s.settle.toNat = 0 → s.bpc.toNat = s.params.bitDiv - 1 →
      s.timerPhase level = { s with toArch := s.toArch.rxTick level, bpc := 0 }) ∧
    (s.settle.toNat = 0 → s.bpc.toNat ≠ s.params.bitDiv - 1 → s.timerPhase level = { s with bpc := s.bpc + 1 }))

/-- 41_receive.md R134, R135, R136: the tenth RX_TICK ends the session, and commits the payload exactly when parity
and stop match; else it empties the slot and arms the trigger. Every register. -/
def Obligations.TenthRxTickCommitsOrRejects : Prop :=
  ∀ (level : Bool) (a : Arch) (w : RxWord), a.rxCount + 1 = 10 →
    w = a.rxAcc ||| ((BitVec.ofBool (!level)).setWidth 10 <<< a.rxCount.toNat) →
    (parity8 (w.extractLsb' 0 8) = w.getLsbD 8 → w.getLsbD 9 = true →
      a.rxTick level =
        { a with
          rxActive := false, rxAcc := 0, rxCount := 0, resValid := true, resData := w.extractLsb' 0 8 }) ∧
    (parity8 (w.extractLsb' 0 8) ≠ w.getLsbD 8 ∨ w.getLsbD 9 = false →
      a.rxTick level =
        { a with
          rxActive := false, rxAcc := 0, rxCount := 0, resValid := false, resData := 0, armed := true })

/-- 40_transmit.md R120, 41_receive.md R141: no command aborts, pauses or extends a session. In a receive session a
command changes no architectural register; in a transmit session only the result slot. -/
def Obligations.SessionsIgnoreCommands : Prop :=
  ∀ (i : Instr) (level : Bool) (a : Arch),
    (a.rxActive = true → (a.command i level).1 = a) ∧
    (a.mode = .tx → ∃ v d, (a.command i level).1 = { a with resValid := v, resData := d })

/-! ### Frames on the wire -/

/-- 30_encoding.md R100: a received word is accepted iff its parity and stop match, and the words accepted are
exactly the `frame(b)[10:1]`, one for each byte. -/
def Obligations.AcceptedWordsAreTheFrames : Prop :=
  (∀ w : RxWord, (∃ b, checkFrame w = .commit b) ↔
    parity8 (w.extractLsb' 0 8) = w.getLsbD 8 ∧ w.getLsbD 9 = true) ∧
  (∀ (w : RxWord) (b : Byte), checkFrame w = .commit b ↔ w = (frame b).extractLsb' 1 10)

/-- 41_receive.md R144: in an accepted word, flipping oddly many of the bits 0 to 8 is detected, so is flipping the
stop bit, and an even number of flips among bits 0 to 8 is delivered as another byte. -/
def Obligations.OddErrorsAreDetected : Prop :=
  ∀ (w e : RxWord) (b : Byte), checkFrame w = .commit b →
    (onesBelow 9 e % 2 = 1 ∨ e.getLsbD 9 = true → ∀ c, checkFrame (w ^^^ e) ≠ .commit c) ∧
    (onesBelow 9 e % 2 = 0 → e.getLsbD 9 = false →
      checkFrame (w ^^^ e) = .commit (b ^^^ e.extractLsb' 0 8))

/-- 40_transmit.md R118: over one session the twelve values written to `gate` are the frame's bits in order, and
before tick k + 1 the shift register holds `frame(b) >> k` and the counter k. -/
def Obligations.SessionEmitsTheFrame : Prop :=
  ∀ (a : Arch) (b : Byte), a.mode = .idle → a.rxActive = false →
    gatesOf 12 (a.send b).1 = (List.range 12).map (fun k => (frame b).getLsbD k) ∧
    (∀ k < 12, ∃ x, Arch.run (List.replicate k .txTick) (a.send b).1 = some x ∧
      x.mode = .tx ∧ x.txShift = frame b >>> k ∧ x.txCount.toNat = k) ∧
    (∃ x, Arch.run (List.replicate 12 .txTick) (a.send b).1 = some x ∧ x.mode = .idle ∧ x.armed = true)

/-- 41_receive.md R143, 95_test_vectors.md S1: "encoding then decoding an isolated frame with no bit errors yields
exactly b". The levels are the complements of what the sender's gate showed after ticks 2 to 11. -/
def Obligations.RoundTripDeliversTheByte : Prop :=
  ∀ (a r : Arch) (b : Byte), a.mode = .idle → a.rxActive = false → r.armed = true → r.resValid = false →
    (gatesOf 12 (a.send b).1).head? = some true ∧
    Arch.run (.edge :: (((gatesOf 12 (a.send b).1).drop 1).take 10).map (fun g => Event.rxTick (!g))) r =
      some { r with
        armed := false, rxActive := false, rxAcc := 0, rxCount := 0, resValid := true, resData := b }

/-- 41_receive.md R142: ten samples leave the same accumulator in the indexed form of R133 and as a shift register
that shifts right and inserts at bit 9. -/
def Obligations.ShiftRegisterFormIsEquivalent : Prop :=
  ∀ (bits : List Bool) (a : Arch), bits.length = 10 → a.rxAcc = 0 → a.rxCount = 0 →
    (bits.foldl (fun x bit => x.sampleBit (!bit)) a).rxAcc = bits.foldl (fun acc bit => shiftSample bit acc) 0

/-! ### Invariants -/

/-- The reset state meets the invariants, that of this implementation and that of every legal configuration
(10_state.md section 7, R45). -/
def Obligations.ResetMeetsTheInvariants : Prop :=
  State.reset.Inv ∧ ∀ p : Params, p.wellFormed = true → (State.resetAt p).Inv

/-- Every event that may occur keeps R36 to R44 ("Each invariant holds in the reset state and is preserved by every
event-level rule", 10_state.md section 7). -/
def Obligations.EventsKeepTheInvariants : Prop :=
  ∀ (e : Event) (a : Arch), a.Inv → e.enabled a = true → (e.apply a).Inv

/-- Every step keeps the invariants, from every state that meets them, and leaves the configuration alone
(10_state.md section 7, 43_cycle_level.md R202, log entry 9). -/
def Obligations.StepKeepsTheInvariants : Prop :=
  ∀ s t : State, s.Inv → step s = .next t → t.Inv ∧ t.params = s.params

/-- "The reachable combinations of (`mode`, `rxActive`, `armed`, `resValid`, `gate`) are exactly these ten"
(10_state.md section 7): the invariants allow no other, and each is reached from reset. -/
def Obligations.TenFlagCombinations : Prop :=
  (∀ a : Arch, a.Inv → a.flags ∈ reachableFlags) ∧
  (∀ f ∈ reachableFlags, ∃ es a, Arch.run es Arch.reset = some a ∧ a.flags = f)

/-! ### The arbiter -/

/-- 42_carrier_and_arbiter.md R165: the changes of `mode` and `rxActive` are exactly those of its table. -/
def Obligations.ModeChangesAreThoseOfTheTable : Prop :=
  ∀ (e : Event) (a x : Arch), a.Inv → e.enabled a = true → e.apply a = x →
    (x.mode = a.mode ∧ x.rxActive = a.rxActive) ∨
    (a.mode = .idle ∧ a.rxActive = false ∧ (∃ b level, e = .command (.send b) level) ∧
      x.mode = .tx ∧ x.rxActive = false) ∨
    (a.mode = .tx ∧ a.txCount = 11 ∧ e = .txTick ∧ x.mode = .idle ∧ x.rxActive = false) ∨
    (a.mode = .idle ∧ a.rxActive = false ∧ (∃ level, e = .command (.setCarrier true) level) ∧
      x.mode = .cs ∧ x.rxActive = false) ∨
    (a.mode = .cs ∧ (∃ level, e = .command (.setCarrier false) level) ∧ x.mode = .idle ∧ x.rxActive = false) ∨
    (a.mode = .idle ∧ a.rxActive = false ∧ a.resValid = false ∧ e = .edge ∧
      x.mode = .idle ∧ x.rxActive = true) ∨
    (a.rxActive = true ∧ a.rxCount = 9 ∧ (∃ level, e = .rxTick level) ∧
      x.mode = .idle ∧ x.rxActive = false ∧ (x.resValid = true ∨ x.armed = true))

/-- 42_carrier_and_arbiter.md R167, 20_memory.md R73: every event that enters a mode or a receive session revokes
the trigger in the same step, and every event that leaves TX or CS grants it back. -/
def Obligations.TriggerFollowsTheOwner : Prop :=
  ∀ (e : Event) (a x : Arch), a.Inv → e.enabled a = true → e.apply a = x →
    (x.mode ≠ .idle ∨ x.rxActive = true → x.armed = false) ∧
    (a.mode ≠ .idle → x.mode = .idle → x.armed = true)

/-- 42_carrier_and_arbiter.md R168, 20_memory.md R72: only TX_TICK in TX, and an accepted SET_CARRIER outside TX and
outside a receive session, write `gate`. -/
def Obligations.GateHasOneDriver : Prop :=
  ∀ (e : Event) (a : Arch), e.enabled a = true → (e.apply a).gate ≠ a.gate →
    (e = .txTick ∧ a.mode = .tx ∧ (e.apply a).gate = a.txShift.getLsbD 0) ∨
    (∃ en level, e = .command (.setCarrier en) level ∧ a.mode ≠ .tx ∧ a.rxActive = false ∧
      (e.apply a).gate = en)

/-! ### Cycles -/

/-- 43_cycle_level.md R202: without reset, a step changes the architectural registers by at most one tick, then at
most one EDGE, then the presented command, each enabled where it is performed; and `rsp` is the response that the
event level gives the command. -/
def Obligations.CycleRefinesTheEventLevel : Prop :=
  ∀ s t : State, s.portsNow.rst = false → step s = .next t →
    ∃ (ticks edges : List Event) (mid : Arch),
      (ticks = [] ∨ ticks = [.txTick] ∨ ticks = [.rxTick s.s2]) ∧ (edges = [] ∨ edges = [.edge]) ∧
      Arch.run (ticks ++ edges) s.toArch = some mid ∧
      (s.portsNow.cmdValid = false → t.toArch = mid ∧ t.rsp = s.rsp) ∧
      (s.portsNow.cmdValid = true →
        t.toArch = (Event.command (decode s.portsNow.word) s.s2).apply mid ∧
        some t.rsp = (Event.command (decode s.portsNow.word) s.s2).response mid)

/-- 43_cycle_level.md R193: in cycle n, `s2` is `ir_rx` as sampled at the end of cycle n - 2, `prev` that of cycle
n - 3 and `s1` that of cycle n - 1, whatever the block does meanwhile. -/
def Obligations.SynchroniserDelaysTheLine : Prop :=
  ∀ (i j k : Inputs) (s : State), i.rst = false → j.rst = false → k.rst = false →
    ∃ t, cycles [i, j, k] s = .next t ∧ t.s1 = k.irRx ∧ t.s2 = j.irRx ∧ t.prev = i.irRx

/-- 10_state.md R34: no command returns a cycle-level register, and the event-level rules never read them; a command
reads at most the line level `s2`. -/
def Obligations.CommandsReadNoSequencerState : Prop :=
  ∀ (i : Instr) (s r : State), s.toArch = r.toArch → s.s2 = r.s2 →
    ∃ t u, exec i s = .next t ∧ exec i r = .next u ∧ t.toArch = u.toArch ∧ t.rsp = u.rsp

/-- 40_transmit.md R119: "The transmitter never reads the input line": during a transmit session, but for the cycle
of its last tick, what the line did and does changes neither the architectural registers nor the counters, nor any
response but that of DETECT_CARRIER. -/
def Obligations.TransmitterIgnoresTheLine : Prop :=
  ∀ (inp : Inputs) (s : State) (x y z l : Bool),
    s.mode = .tx → s.rxActive = false → s.armed = false → s.txCount ≠ 11 ∨ s.bpc.toNat ≠ s.params.bitDiv - 1 →
    inp.rst = false →
    ∃ t u, cycle inp s = .next t ∧
      cycle { inp with irRx := l } { s with s1 := x, s2 := y, prev := z } = .next u ∧
      u.toArch = t.toArch ∧ u.bpc.toNat = t.bpc.toNat ∧ u.cph.toNat = t.cph.toNat ∧
      (decode inp.word ≠ .detectCarrier → u.rsp = t.rsp)

/-- 60_exceptions.md R228: "A falling edge that arrives while `armed` = 0 is not remembered": outside a session, a
cycle with the trigger disarmed is the same whether the line fell in it or not. -/
def Obligations.DisarmedEdgeLeavesNoTrace : Prop :=
  ∀ (inp : Inputs) (s : State) (x : Bool),
    s.armed = false → s.mode ≠ .tx → s.rxActive = false →
    cycle inp { s with prev := x } = cycle inp s

/-- 20_memory.md R74: "once `mode` = IDLE, `rxActive` = 0 and the slot is valid, nothing but the host's own commands
changes the state": a cycle without command and reset leaves every architectural register, whatever the line
does. -/
def Obligations.HoldingLinkIsStable : Prop :=
  ∀ (inp : Inputs) (s : State), s.mode = .idle → s.rxActive = false → s.resValid = true →
    inp.rst = false → inp.cmdValid = false →
    ∃ t, cycle inp s = .next t ∧ t.toArch = s.toArch

/-- 70_reset_and_hazards.md R256: while a result is pending the receiver starts no session and the byte stays, until
RECEIVE_BYTE (or reset). -/
def Obligations.PendingResultClosesTheReceiver : Prop :=
  ∀ (inp : Inputs) (s : State), s.Inv → s.resValid = true → inp.rst = false →
    (inp.cmdValid = true → decode inp.word ≠ .receiveByte) →
    ∃ t, cycle inp s = .next t ∧ t.resValid = true ∧ t.resData = s.resData ∧ t.rxActive = false

/-- 43_cycle_level.md R199, R200: held steady from its first cycle (`cph` = 0), the output is a square wave of period
`CARRIER_DIV` cycles, high for the first half of each period, for as long as no command and no reset comes. -/
def Obligations.SteadyCarrierIsASquareWave : Prop :=
  ∀ (ins : List Inputs) (s : State), s.params.wellFormed = true →
    s.mode = .cs → s.rxActive = false → s.armed = false → s.gate = true → s.cph.toNat = 0 →
    noReset ins → noCommand ins →
    ∃ t, cycles ins s = .next t ∧ t.mode = .cs ∧ t.cph.toNat = ins.length % s.params.carrierDiv ∧
      t.irTx = decide (ins.length % s.params.carrierDiv < s.params.carrierDiv / 2)

/-- 43_cycle_level.md R199, R200: after any cycle without reset the phase counter is the successor modulo
`CARRIER_DIV` where the gate was and is on, else 0; and `ir_tx` = 1 iff `gate` = 1 and `cph` < `CARRIER_DIV` / 2, so a
gate that just rose shows the start of a high half. -/
def Obligations.CarrierPhaseFollowsTheGate : Prop :=
  ∀ (inp : Inputs) (s t : State), s.params.wellFormed = true → inp.rst = false → cycle inp s = .next t →
    (s.gate = true → t.gate = true → t.cph.toNat = (s.cph.toNat + 1) % s.params.carrierDiv) ∧
    (s.gate = false ∨ t.gate = false → t.cph.toNat = 0) ∧
    (s.gate = false → t.gate = true → t.irTx = true) ∧
    (t.irTx = true ↔ t.gate = true ∧ t.cph.toNat < s.params.carrierDiv / 2)

/-- 43_cycle_level.md R201, 10_state.md R33: the status outputs are what the query commands answer. -/
def Obligations.StatusOutputsAreTheQueries : Prop :=
  ∀ s : State,
    (s.outputs.txBusy = true ↔ s.mode = .tx) ∧ s.outputs.rxBusy = s.rxActive ∧
    s.outputs.rxAvail = (s.resValid && !s.rxActive) ∧
    exec .isSending s = .next { s with rsp := boolResponse s.outputs.txBusy, rspValid := true } ∧
    exec .isReceiving s = .next { s with rsp := boolResponse s.outputs.rxBusy, rspValid := true } ∧
    exec .available s = .next { s with rsp := boolResponse s.outputs.rxAvail, rspValid := true }

/-- 60_exceptions.md R229: tick, then EDGE, then command. "A SEND in the cycle of the twelfth TX_TICK sees `mode` =
IDLE and is accepted", unless the line falls in that very cycle on an empty slot: then "a SEND in the cycle of an
effective EDGE sees `rxActive` = 1 and is rejected". -/
def Obligations.SendInTheCycleOfTheLastTick : Prop :=
  ∀ (inp : Inputs) (b : Byte) (s : State),
    s.mode = .tx → s.rxActive = false → s.txCount = 11 → s.bpc.toNat = s.params.bitDiv - 1 →
    inp.rst = false → inp.cmdValid = true → decode inp.word = .send b →
    (s.prev = false ∨ s.s2 = true ∨ s.resValid = true →
      ∃ t, cycle inp s = .next t ∧ t.mode = .tx ∧ t.txShift = frame b ∧ t.txCount = 0 ∧ t.bpc.toNat = 0 ∧
        t.gate = s.txShift.getLsbD 0 ∧ t.armed = false ∧ t.rsp = 0x0001) ∧
    (s.prev = true → s.s2 = false → s.resValid = false →
      ∃ t, cycle inp s = .next t ∧ t.mode = .idle ∧ t.rxActive = true ∧ t.settle.toNat = s.params.settleDiv ∧
        t.rsp = 0x0000)

/-- 60_exceptions.md R229: "a RECEIVE_BYTE in the cycle of a committing tenth RX_TICK returns the new byte". -/
def Obligations.ReceiveByteInTheCycleOfTheCommit : Prop :=
  ∀ (inp : Inputs) (c : Byte) (s : State),
    s.mode = .idle → s.rxActive = true → s.settle.toNat = 0 → s.rxCount = 9 → s.bpc.toNat = s.params.bitDiv - 1 →
    checkFrame (s.rxAcc ||| ((BitVec.ofBool (!s.s2)).setWidth 10 <<< 9)) = .commit c →
    inp.rst = false → inp.cmdValid = true → decode inp.word = .receiveByte →
    ∃ t, cycle inp s = .next t ∧ t.rsp = c.setWidth 16 ∧ t.resValid = false ∧ t.rxActive = false ∧
      t.armed = true

/-! ### Runs -/

/-- Steps of the machine are cycles: as long as the schedule lasts, `n` steps from a state are the `n` cycles of its
records (43_cycle_level.md R190). That the ports' coming values stand in the model's own field `inputs`, and that a step
takes its first record, is the MODEL's choice (log entry 2). -/
def Obligations.RunConsumesTheSchedule : Prop :=
  ∀ (s : State) (ins rest : List Inputs), s.inputs = ins ++ rest →
    Host.Core.run Sys2Proof.core ins.length s = cycles ins { s with inputs := rest }

/-- 43_cycle_level.md R203: from the cycle after the acceptance of SEND b, whatever commands and line levels come,
TX_TICK k is performed in the `k * BIT_DIV`-th cycle, `gate` shows frame bit k - 1 during the bit period after it,
and the session ends with the twelfth. -/
def Obligations.TransmissionTiming : Prop :=
  ∀ (b : Byte) (s : State) (ins : List Inputs), s.params.wellFormed = true →
    s.mode = .tx → s.rxActive = false → s.armed = false → s.txShift = frame b → s.txCount = 0 → s.bpc.toNat = 0 →
    noReset ins →
    (ins.length < 12 * s.params.bitDiv →
      ∃ t, cycles ins s = .next t ∧ t.mode = .tx ∧ t.txCount.toNat = ins.length / s.params.bitDiv ∧
        t.bpc.toNat = ins.length % s.params.bitDiv ∧
        t.gate = (if ins.length < s.params.bitDiv then s.gate
          else (frame b).getLsbD (ins.length / s.params.bitDiv - 1))) ∧
    (ins.length = 12 * s.params.bitDiv → (∀ inp, ins.getLast? = some inp → inp.cmdValid = false) →
      ∃ t, cycles ins s = .next t ∧ t.mode = .idle ∧ t.gate = false ∧ t.txShift = 0 ∧ t.txCount = 0 ∧
        (t.armed = true ∨ t.rxActive = true))

/-- 43_cycle_level.md R204, 41_receive.md R132: from the cycle after an effective EDGE, whatever commands and line
levels come, RX_TICK k is performed in cycle `SETTLE_DIV + k * BIT_DIV`, and after the tenth the byte is delivered or
the frame rejected as the ten sampled levels say. -/
def Obligations.ReceptionTiming : Prop :=
  ∀ (s : State) (ins : List Inputs) (w : RxWord), s.params.wellFormed = true →
    s.mode = .idle → s.rxActive = true → s.armed = false → s.resValid = false → s.rxAcc = 0 → s.rxCount = 0 →
    s.bpc.toNat = 0 → s.settle.toNat = s.params.settleDiv → noReset ins →
    (ins.length < s.params.settleDiv + 10 * s.params.bitDiv →
      ∃ t, cycles ins s = .next t ∧ t.rxActive = true ∧ t.resValid = false ∧
        t.rxCount.toNat = (ins.length - s.params.settleDiv) / s.params.bitDiv) ∧
    (ins.length = s.params.settleDiv + 10 * s.params.bitDiv →
      (∀ inp, ins.getLast? = some inp → inp.cmdValid = false) →
      (∀ k < 10, w.getLsbD k = !lineSeen s ins (s.params.settleDiv + (k + 1) * s.params.bitDiv - 1)) →
      ∃ t, cycles ins s = .next t ∧ t.mode = .idle ∧
        (∀ c, checkFrame w = .commit c →
          t.rxActive = false ∧ t.armed = false ∧ t.resValid = true ∧ t.resData = c) ∧
        ((∀ c, checkFrame w ≠ .commit c) →
          t.resValid = false ∧ ((t.rxActive = false ∧ t.armed = true) ∨ (t.rxActive = true ∧ t.rxCount = 0))))

/-- 43_cycle_level.md R205, 70_reset_and_hazards.md R273, 95_test_vectors.md S6: over the ideal channel, under every
legal configuration, SEND b on a link in reset delivers b to a link in reset exactly when the spec's figures say, and
the sender is back in the reset state after twelve bit periods. It speaks of the ideal channel only, a test fixture (log
entry 15), and of two links that share one clock (log entry 18). -/
def Obligations.EndToEndDelivery : Prop :=
  ∀ (p : Params) (b : Byte), p.wellFormed = true →
    (∃ x, pairCycles (sendSchedule b (11 * p.bitDiv + p.settleDiv + 3))
        { linkA := State.resetAt p, linkB := State.resetAt p } = .next x ∧ x.linkB.resValid = false) ∧
    (∃ x, pairCycles (sendSchedule b (11 * p.bitDiv + p.settleDiv + 4))
        { linkA := State.resetAt p, linkB := State.resetAt p } = .next x ∧
      x.linkB.resValid = true ∧ x.linkB.resData = b) ∧
    (∃ x, pairCycles (sendSchedule b (12 * p.bitDiv))
        { linkA := State.resetAt p, linkB := State.resetAt p } = .next x ∧ x.linkA.mode = .tx) ∧
    (∃ x, pairCycles (sendSchedule b (12 * p.bitDiv + 1))
        { linkA := State.resetAt p, linkB := State.resetAt p } = .next x ∧ x.linkA.toArch = Arch.reset)

/-! ### Fairness -/

/-- 60_exceptions.md R238, R227: the timer "is weakly fair: an enabled tick eventually happens": in every fair behaviour,
from every registers, a TX_TICK enabled at a moment happens then or later and stays enabled till then with the
transmitter's registers as they were, and so does RX_TICK with `rxActive`. What counts as a behaviour is log entry 17. -/
def Obligations.EnabledTickEventuallyHappens : Prop :=
  ∀ (b : Behaviour) (n : Nat), b.fair →
    (Event.txTick.enabled (b.state n) = true →
      ∃ m, n ≤ m ∧ b.event m = some .txTick ∧
        ∀ k, n ≤ k → k ≤ m → Event.txTick.enabled (b.state k) = true ∧
          (b.state k).txShift = (b.state n).txShift ∧ (b.state k).txCount = (b.state n).txCount) ∧
    (∀ level, (Event.rxTick level).enabled (b.state n) = true →
      ∃ m seen, n ≤ m ∧ b.event m = some (.rxTick seen) ∧
        ∀ k, n ≤ k → k ≤ m → (Event.rxTick level).enabled (b.state k) = true)

/-- 93_implementation_defined.md U13, 60_exceptions.md R227, R232: "with weak fairness of RX_TICK, every session ends
after ten ticks", a transmit session after twelve: in every fair behaviour from registers that meet the invariants, a
session active at a moment goes on until the tick that ends it, and from that moment on it takes as many ticks as its
counter has left. What counts as a behaviour is log entry 17. -/
def Obligations.FairSessionsEnd : Prop :=
  ∀ (b : Behaviour) (n : Nat), b.fair → b.start.Inv →
    ((b.state n).mode = .tx →
      ∃ k, b.event (n + k) = some .txTick ∧ (∀ j ≤ k, (b.state (n + j)).mode = .tx) ∧
        (b.state n).txCount.toNat + b.countFrom Event.isTxTick n (k + 1) = 12 ∧
        (b.state (n + k + 1)).mode = .idle ∧ (b.state (n + k + 1)).armed = true ∧
        (b.state (n + k + 1)).gate = false) ∧
    ((b.state n).rxActive = true →
      ∃ k level, b.event (n + k) = some (.rxTick level) ∧ (∀ j ≤ k, (b.state (n + j)).rxActive = true) ∧
        (b.state n).rxCount.toNat + b.countFrom Event.isRxTick n (k + 1) = 10 ∧
        (b.state (n + k + 1)).rxActive = false ∧
        ((b.state (n + k + 1)).resValid = true ∨ (b.state (n + k + 1)).armed = true))

/-- 60_exceptions.md R227, R238, 43_cycle_level.md R202: every infinite run of clock cycles without reset, from a state
that meets the invariants, is a FAIR behaviour of the event level, each cycle being the moments of its tick, its EDGE and
its command: the timer "fires every bit period without fail", so that a tick of a transmit session comes within
`BIT_DIV` cycles and one of a receive session within `SETTLE_DIV` + `BIT_DIV`. What counts as a behaviour is log entry
17. -/
def Obligations.ClockedRunsAreFairBehaviours : Prop :=
  ∀ (ins : Nat → Inputs) (s : Nat → State), (s 0).Inv → (∀ n, (ins n).rst = false) →
    (∀ n, cycle (ins n) (s n) = .next (s (n + 1))) →
    ∃ b : Behaviour, b.fair ∧
      (∀ n, b.state (3 * n) = (s n).toArch ∧
        (b.event (3 * n) = none ∨ b.event (3 * n) = some .txTick ∨ b.event (3 * n) = some (.rxTick (s n).s2)) ∧
        (b.event (3 * n + 1) = none ∨ b.event (3 * n + 1) = some .edge) ∧
        b.event (3 * n + 2) =
          if (ins n).cmdValid = true then some (.command (decode (ins n).word) (s n).s2) else none) ∧
      (∀ n, (s n).mode = .tx → ∃ k < (s 0).params.bitDiv, b.event (3 * (n + k)) = some .txTick) ∧
      (∀ n, (s n).rxActive = true → ∃ k < (s 0).params.settleDiv + (s 0).params.bitDiv,
        b.event (3 * (n + k)) = some (.rxTick (s (n + k)).s2))

/-! ### The widths of the counters -/

/-- 10_state.md R34: the registers `bpc`, `settle` and `cph` have ceil(log2(n)) bits for n = `BIT_DIV`,
`SETTLE_DIV` + 1 and `CARRIER_DIV`: n values fit in that many bits, and in no fewer; and each holds its range: in every
state, a value of the register is less than 2 to the power of its width. -/
def Obligations.CounterWidthsAreThoseOfR34 : Prop :=
  (∀ (p : Params) (w : Nat), p.wellFormed = true →
    (p.bitDiv ≤ 2 ^ w ↔ p.bpcWidth ≤ w) ∧ (p.settleDiv + 1 ≤ 2 ^ w ↔ p.settleWidth ≤ w) ∧
    (p.carrierDiv ≤ 2 ^ w ↔ p.cphWidth ≤ w)) ∧
  (∀ s : State, s.bpc.toNat < 2 ^ s.params.bpcWidth ∧ s.settle.toNat < 2 ^ s.params.settleWidth ∧
    s.cph.toNat < 2 ^ s.params.cphWidth)

/-- 43_cycle_level.md R195, R196, R199, 00_scope.md R12 (h): within their ranges the counters count as the rules'
numbers do: no successor or predecessor wraps at the width of its register, and what phase 2 loads and phase 4 reduces
fits. -/
def Obligations.CountersCountWithoutWrapping : Prop :=
  ∀ s : State, s.Inv →
    (s.bpc.toNat ≠ s.params.bitDiv - 1 → (s.bpc + 1).toNat = s.bpc.toNat + 1) ∧
    (0 < s.settle.toNat → (s.settle - 1).toNat = s.settle.toNat - 1) ∧
    (∀ g0 l, (s.carrierSyncPhase g0 l).cph.toNat =
      if g0 = true ∧ s.gate = true then (s.cph.toNat + 1) % s.params.carrierDiv else 0) ∧
    (BitVec.ofNat s.params.settleWidth s.params.settleDiv).toNat = s.params.settleDiv
end

