-- ==== Sys2Proof/Laws/Config.lean ====
section
/-! SUPPORT. The configurations of 00_scope.md R6: which there are, and how the dividers and the clock belong
together. -/

namespace Sys2Proof

/-- The constraints of R6 on the dividers, as propositions. -/
theorem Params.wellFormed_iff (p : Params) : p.wellFormed = true ↔
    2 ≤ p.bitDiv ∧ p.settleDiv < p.bitDiv ∧ 2 ≤ p.carrierDiv ∧ p.carrierDiv % 2 = 0 := by
  simp [Params.wellFormed, Params.bitDivLegal, Params.settleDivLegal, Params.carrierDivLegal, and_assoc]

/-- The equations of R6 between the dividers and the clock, as propositions. -/
theorem Params.clockedBy_iff (p : Params) (c : Clocking) : p.clockedBy c = true ↔
    0 < c.fClk ∧ 0 < c.fCarrier ∧ (p.bitDiv : ℚ) = c.fClk * c.tBit ∧ (p.carrierDiv : ℚ) = c.fClk / c.fCarrier := by
  simp [Params.clockedBy, Clocking.frequenciesLegal, Params.bitDivClocked, Params.carrierDivClocked, and_assoc]

/-- This implementation's dividers meet the constraints of R6. -/
theorem params_wellFormed : Config.params.wellFormed = true :=
  (Params.wellFormed_iff _).mpr
    ⟨Nat.le_add_left _ _, Nat.mod_lt _ (Nat.succ_pos _), Nat.le_mul_of_pos_right 2 (Nat.succ_pos _),
      Nat.mul_mod_right _ _⟩

/-- For dividers that meet R6 and a positive clock frequency, the bit period and the carrier frequency are the ones
R6's equations determine, and no others: nothing is lost by computing them. -/
theorem Params.clockedBy_iff_determined (p : Params) (hp : p.wellFormed = true) (c : Clocking) :
    p.clockedBy c = true ↔ 0 < c.fClk ∧ c.tBit = p.bitDiv / c.fClk ∧ c.fCarrier = c.fClk / p.carrierDiv := by
  obtain ⟨-, -, h2, -⟩ := (Params.wellFormed_iff p).mp hp
  have hd : (0 : ℚ) < p.carrierDiv := by exact_mod_cast (by omega : 0 < p.carrierDiv)
  rw [Params.clockedBy_iff]
  constructor
  · rintro ⟨hf, hc, hb, hk⟩
    exact ⟨hf, by rw [hb]; field_simp, by rw [hk]; field_simp⟩
  · rintro ⟨hf, hb, hk⟩
    exact ⟨hf, by rw [hk]; positivity, by rw [hb]; field_simp, by rw [hk]; field_simp⟩

/-- This implementation's dividers are those of its clock (R6). -/
theorem params_clockedBy : Config.params.clockedBy Config.clocking = true :=
  (Params.clockedBy_iff_determined _ params_wellFormed _).mpr ⟨by unfold Config.clocking; positivity, rfl, rfl⟩

/-- `REF`'s dividers are those of its clock with the nominal bit period and carrier frequency: "exactly 38 kHz" (R6). -/
theorem ref_clockedBy : Config.ref.clockedBy Config.refClocking = true := by
  rw [Params.clockedBy_iff]
  norm_num [Config.ref, Config.refClocking, Config.nominalTBit, Config.nominalFCarrier]

/-- `BIT_DIV` cycles last one bit period (R6, R190). -/
theorem Clocking.duration_bitDiv (p : Params) (c : Clocking) (h : p.clockedBy c = true) :
    c.duration p.bitDiv = c.tBit := by
  obtain ⟨hf, -, hb, -⟩ := (Params.clockedBy_iff p c).mp h
  rw [Clocking.duration, hb]
  field_simp

/-- `CARRIER_DIV` cycles last one carrier period (R6, R190). -/
theorem Clocking.duration_carrierDiv (p : Params) (c : Clocking) (h : p.clockedBy c = true) :
    c.duration p.carrierDiv = 1 / c.fCarrier := by
  obtain ⟨hf, hc, -, hk⟩ := (Params.clockedBy_iff p c).mp h
  rw [Clocking.duration, hk]
  field_simp

/-- The high half of a carrier period, `CARRIER_DIV / 2` cycles (43_cycle_level.md R200), is `DUTY` of it. -/
theorem Params.high_half_is_duty (p : Params) (hp : p.wellFormed = true) :
    ((p.carrierDiv / 2 : Nat) : ℚ) = Config.duty * p.carrierDiv := by
  obtain ⟨-, -, -, h⟩ := (Params.wellFormed_iff p).mp hp
  obtain ⟨k, hk⟩ := Nat.dvd_of_mod_eq_zero h
  rw [hk, Nat.mul_div_cancel_left k (by decide), Config.duty]
  push_cast
  ring

end Sys2Proof
end

