-- ==== Sys2Proof/Laws/State.lean ====
section
/-! SUPPORT. One lemma per field for each record update of the model (Machine/Ops.lean, Transmit.lean, Receive.lean,
Carrier.lean, Cycle.lean), each true by rfl, so that no proof unfolds a record update. The three counters, whose widths
stand in the state, are compared by their numbers; the width is written as simp leaves it. -/

namespace Sys2Proof.Machine

section
variable (a : Arch)

@[simp] theorem Arch.clearSlot_txShift : a.clearSlot.txShift = a.txShift := rfl
@[simp] theorem Arch.clearSlot_txCount : a.clearSlot.txCount = a.txCount := rfl
@[simp] theorem Arch.clearSlot_rxAcc : a.clearSlot.rxAcc = a.rxAcc := rfl
@[simp] theorem Arch.clearSlot_rxCount : a.clearSlot.rxCount = a.rxCount := rfl
@[simp] theorem Arch.clearSlot_resValid : a.clearSlot.resValid = false := rfl
@[simp] theorem Arch.clearSlot_resData : a.clearSlot.resData = 0 := rfl
@[simp] theorem Arch.clearSlot_mode : a.clearSlot.mode = a.mode := rfl
@[simp] theorem Arch.clearSlot_rxActive : a.clearSlot.rxActive = a.rxActive := rfl
@[simp] theorem Arch.clearSlot_armed : a.clearSlot.armed = a.armed := rfl
@[simp] theorem Arch.clearSlot_gate : a.clearSlot.gate = a.gate := rfl

end

section
variable (a : Arch) (d : Byte)

@[simp] theorem Arch.fillSlot_txShift : (a.fillSlot d).txShift = a.txShift := rfl
@[simp] theorem Arch.fillSlot_txCount : (a.fillSlot d).txCount = a.txCount := rfl
@[simp] theorem Arch.fillSlot_rxAcc : (a.fillSlot d).rxAcc = a.rxAcc := rfl
@[simp] theorem Arch.fillSlot_rxCount : (a.fillSlot d).rxCount = a.rxCount := rfl
@[simp] theorem Arch.fillSlot_resValid : (a.fillSlot d).resValid = true := rfl
@[simp] theorem Arch.fillSlot_resData : (a.fillSlot d).resData = d := rfl
@[simp] theorem Arch.fillSlot_mode : (a.fillSlot d).mode = a.mode := rfl
@[simp] theorem Arch.fillSlot_rxActive : (a.fillSlot d).rxActive = a.rxActive := rfl
@[simp] theorem Arch.fillSlot_armed : (a.fillSlot d).armed = a.armed := rfl
@[simp] theorem Arch.fillSlot_gate : (a.fillSlot d).gate = a.gate := rfl

end

section
variable (a : Arch) (b : Byte)

@[simp] theorem Arch.loadFrame_txShift : (a.loadFrame b).txShift = frame b := rfl
@[simp] theorem Arch.loadFrame_txCount : (a.loadFrame b).txCount = 0 := rfl
@[simp] theorem Arch.loadFrame_rxAcc : (a.loadFrame b).rxAcc = a.rxAcc := rfl
@[simp] theorem Arch.loadFrame_rxCount : (a.loadFrame b).rxCount = a.rxCount := rfl
@[simp] theorem Arch.loadFrame_resValid : (a.loadFrame b).resValid = a.resValid := rfl
@[simp] theorem Arch.loadFrame_resData : (a.loadFrame b).resData = a.resData := rfl
@[simp] theorem Arch.loadFrame_mode : (a.loadFrame b).mode = .tx := rfl
@[simp] theorem Arch.loadFrame_rxActive : (a.loadFrame b).rxActive = a.rxActive := rfl
@[simp] theorem Arch.loadFrame_armed : (a.loadFrame b).armed = false := rfl
@[simp] theorem Arch.loadFrame_gate : (a.loadFrame b).gate = a.gate := rfl

end

section
variable (a : Arch)

@[simp] theorem Arch.endTransmit_txShift : a.endTransmit.txShift = a.txShift := rfl
@[simp] theorem Arch.endTransmit_txCount : a.endTransmit.txCount = 0 := rfl
@[simp] theorem Arch.endTransmit_rxAcc : a.endTransmit.rxAcc = a.rxAcc := rfl
@[simp] theorem Arch.endTransmit_rxCount : a.endTransmit.rxCount = a.rxCount := rfl
@[simp] theorem Arch.endTransmit_resValid : a.endTransmit.resValid = a.resValid := rfl
@[simp] theorem Arch.endTransmit_resData : a.endTransmit.resData = a.resData := rfl
@[simp] theorem Arch.endTransmit_mode : a.endTransmit.mode = .idle := rfl
@[simp] theorem Arch.endTransmit_rxActive : a.endTransmit.rxActive = a.rxActive := rfl
@[simp] theorem Arch.endTransmit_armed : a.endTransmit.armed = true := rfl
@[simp] theorem Arch.endTransmit_gate : a.endTransmit.gate = a.gate := rfl

end

section
variable (a : Arch)

@[simp] theorem Arch.emitBit_txShift : a.emitBit.txShift = a.txShift >>> 1 := rfl
@[simp] theorem Arch.emitBit_txCount : a.emitBit.txCount = a.txCount + 1 := rfl
@[simp] theorem Arch.emitBit_rxAcc : a.emitBit.rxAcc = a.rxAcc := rfl
@[simp] theorem Arch.emitBit_rxCount : a.emitBit.rxCount = a.rxCount := rfl
@[simp] theorem Arch.emitBit_resValid : a.emitBit.resValid = a.resValid := rfl
@[simp] theorem Arch.emitBit_resData : a.emitBit.resData = a.resData := rfl
@[simp] theorem Arch.emitBit_mode : a.emitBit.mode = a.mode := rfl
@[simp] theorem Arch.emitBit_rxActive : a.emitBit.rxActive = a.rxActive := rfl
@[simp] theorem Arch.emitBit_armed : a.emitBit.armed = a.armed := rfl
@[simp] theorem Arch.emitBit_gate : a.emitBit.gate = a.txShift.getLsbD 0 := rfl

end

section
variable (a : Arch)

@[simp] theorem Arch.startReceive_txShift : a.startReceive.txShift = a.txShift := rfl
@[simp] theorem Arch.startReceive_txCount : a.startReceive.txCount = a.txCount := rfl
@[simp] theorem Arch.startReceive_rxAcc : a.startReceive.rxAcc = 0 := rfl
@[simp] theorem Arch.startReceive_rxCount : a.startReceive.rxCount = 0 := rfl
@[simp] theorem Arch.startReceive_resValid : a.startReceive.resValid = a.resValid := rfl
@[simp] theorem Arch.startReceive_resData : a.startReceive.resData = a.resData := rfl
@[simp] theorem Arch.startReceive_mode : a.startReceive.mode = a.mode := rfl
@[simp] theorem Arch.startReceive_rxActive : a.startReceive.rxActive = true := rfl
@[simp] theorem Arch.startReceive_armed : a.startReceive.armed = false := rfl
@[simp] theorem Arch.startReceive_gate : a.startReceive.gate = a.gate := rfl

end

section
variable (l : Bool) (a : Arch)

@[simp] theorem Arch.sampleBit_txShift : (a.sampleBit l).txShift = a.txShift := rfl
@[simp] theorem Arch.sampleBit_txCount : (a.sampleBit l).txCount = a.txCount := rfl
@[simp] theorem Arch.sampleBit_rxAcc : (a.sampleBit l).rxAcc = a.rxAcc ||| ((BitVec.ofBool (!l)).setWidth 10 <<< a.rxCount.toNat) := rfl
@[simp] theorem Arch.sampleBit_rxCount : (a.sampleBit l).rxCount = a.rxCount + 1 := rfl
@[simp] theorem Arch.sampleBit_resValid : (a.sampleBit l).resValid = a.resValid := rfl
@[simp] theorem Arch.sampleBit_resData : (a.sampleBit l).resData = a.resData := rfl
@[simp] theorem Arch.sampleBit_mode : (a.sampleBit l).mode = a.mode := rfl
@[simp] theorem Arch.sampleBit_rxActive : (a.sampleBit l).rxActive = a.rxActive := rfl
@[simp] theorem Arch.sampleBit_armed : (a.sampleBit l).armed = a.armed := rfl
@[simp] theorem Arch.sampleBit_gate : (a.sampleBit l).gate = a.gate := rfl

end

section
variable (a : Arch)

@[simp] theorem Arch.endReceive_txShift : a.endReceive.txShift = a.txShift := rfl
@[simp] theorem Arch.endReceive_txCount : a.endReceive.txCount = a.txCount := rfl
@[simp] theorem Arch.endReceive_rxAcc : a.endReceive.rxAcc = 0 := rfl
@[simp] theorem Arch.endReceive_rxCount : a.endReceive.rxCount = 0 := rfl
@[simp] theorem Arch.endReceive_resValid : a.endReceive.resValid = a.resValid := rfl
@[simp] theorem Arch.endReceive_resData : a.endReceive.resData = a.resData := rfl
@[simp] theorem Arch.endReceive_mode : a.endReceive.mode = a.mode := rfl
@[simp] theorem Arch.endReceive_rxActive : a.endReceive.rxActive = false := rfl
@[simp] theorem Arch.endReceive_armed : a.endReceive.armed = a.armed := rfl
@[simp] theorem Arch.endReceive_gate : a.endReceive.gate = a.gate := rfl

end

section
variable (a : Arch)

@[simp] theorem Arch.reject_txShift : a.reject.txShift = a.txShift := rfl
@[simp] theorem Arch.reject_txCount : a.reject.txCount = a.txCount := rfl
@[simp] theorem Arch.reject_rxAcc : a.reject.rxAcc = a.rxAcc := rfl
@[simp] theorem Arch.reject_rxCount : a.reject.rxCount = a.rxCount := rfl
@[simp] theorem Arch.reject_resValid : a.reject.resValid = false := rfl
@[simp] theorem Arch.reject_resData : a.reject.resData = 0 := rfl
@[simp] theorem Arch.reject_mode : a.reject.mode = a.mode := rfl
@[simp] theorem Arch.reject_rxActive : a.reject.rxActive = a.rxActive := rfl
@[simp] theorem Arch.reject_armed : a.reject.armed = true := rfl
@[simp] theorem Arch.reject_gate : a.reject.gate = a.gate := rfl

end

section
variable (a : Arch)

@[simp] theorem Arch.carrierOn_txShift : a.carrierOn.txShift = a.txShift := rfl
@[simp] theorem Arch.carrierOn_txCount : a.carrierOn.txCount = a.txCount := rfl
@[simp] theorem Arch.carrierOn_rxAcc : a.carrierOn.rxAcc = a.rxAcc := rfl
@[simp] theorem Arch.carrierOn_rxCount : a.carrierOn.rxCount = a.rxCount := rfl
@[simp] theorem Arch.carrierOn_resValid : a.carrierOn.resValid = a.resValid := rfl
@[simp] theorem Arch.carrierOn_resData : a.carrierOn.resData = a.resData := rfl
@[simp] theorem Arch.carrierOn_mode : a.carrierOn.mode = .cs := rfl
@[simp] theorem Arch.carrierOn_rxActive : a.carrierOn.rxActive = a.rxActive := rfl
@[simp] theorem Arch.carrierOn_armed : a.carrierOn.armed = false := rfl
@[simp] theorem Arch.carrierOn_gate : a.carrierOn.gate = true := rfl

end

section
variable (a : Arch)

@[simp] theorem Arch.carrierOff_txShift : a.carrierOff.txShift = a.txShift := rfl
@[simp] theorem Arch.carrierOff_txCount : a.carrierOff.txCount = a.txCount := rfl
@[simp] theorem Arch.carrierOff_rxAcc : a.carrierOff.rxAcc = a.rxAcc := rfl
@[simp] theorem Arch.carrierOff_rxCount : a.carrierOff.rxCount = a.rxCount := rfl
@[simp] theorem Arch.carrierOff_resValid : a.carrierOff.resValid = a.resValid := rfl
@[simp] theorem Arch.carrierOff_resData : a.carrierOff.resData = a.resData := rfl
@[simp] theorem Arch.carrierOff_mode : a.carrierOff.mode = .idle := rfl
@[simp] theorem Arch.carrierOff_rxActive : a.carrierOff.rxActive = a.rxActive := rfl
@[simp] theorem Arch.carrierOff_armed : a.carrierOff.armed = true := rfl
@[simp] theorem Arch.carrierOff_gate : a.carrierOff.gate = false := rfl

end

section
variable (s : State) (r : Arch × Response)

@[simp] theorem State.answer_params : (s.answer r).params = s.params := rfl
@[simp] theorem State.answer_toArch : (s.answer r).toArch = r.1 := rfl
@[simp] theorem State.answer_s1 : (s.answer r).s1 = s.s1 := rfl
@[simp] theorem State.answer_s2 : (s.answer r).s2 = s.s2 := rfl
@[simp] theorem State.answer_prev : (s.answer r).prev = s.prev := rfl
@[simp] theorem State.answer_bpc : BitVec.toNat (w := s.params.bpcWidth) (s.answer r).bpc = s.bpc.toNat := rfl
@[simp] theorem State.answer_settle : BitVec.toNat (w := s.params.settleWidth) (s.answer r).settle = s.settle.toNat := rfl
@[simp] theorem State.answer_cph : BitVec.toNat (w := s.params.cphWidth) (s.answer r).cph = s.cph.toNat := rfl
@[simp] theorem State.answer_rsp : (s.answer r).rsp = r.2 := rfl
@[simp] theorem State.answer_rspValid : (s.answer r).rspValid = true := rfl
@[simp] theorem State.answer_inputs : (s.answer r).inputs = s.inputs := rfl
@[simp] theorem State.answer_drawn : (s.answer r).drawn = s.drawn := rfl

end

section
variable (p : Params)

@[simp] theorem State.resetAt_params : (State.resetAt p).params = p := rfl
@[simp] theorem State.resetAt_toArch : (State.resetAt p).toArch = Arch.reset := rfl
@[simp] theorem State.resetAt_s1 : (State.resetAt p).s1 = true := rfl
@[simp] theorem State.resetAt_s2 : (State.resetAt p).s2 = true := rfl
@[simp] theorem State.resetAt_prev : (State.resetAt p).prev = true := rfl
@[simp] theorem State.resetAt_bpc : BitVec.toNat (w := p.bpcWidth) (State.resetAt p).bpc = 0 := by simp [State.resetAt]
@[simp] theorem State.resetAt_settle : BitVec.toNat (w := p.settleWidth) (State.resetAt p).settle = 0 := by simp [State.resetAt]
@[simp] theorem State.resetAt_cph : BitVec.toNat (w := p.cphWidth) (State.resetAt p).cph = 0 := by simp [State.resetAt]
@[simp] theorem State.resetAt_rsp : (State.resetAt p).rsp = 0 := rfl
@[simp] theorem State.resetAt_rspValid : (State.resetAt p).rspValid = false := rfl
@[simp] theorem State.resetAt_inputs : (State.resetAt p).inputs = [] := rfl
@[simp] theorem State.resetAt_drawn : (State.resetAt p).drawn = 0 := rfl

end

section
variable (s : State)

@[simp] theorem State.resetRegisters_params : s.resetRegisters.params = s.params := rfl
@[simp] theorem State.resetRegisters_toArch : s.resetRegisters.toArch = Arch.reset := rfl
@[simp] theorem State.resetRegisters_s1 : s.resetRegisters.s1 = true := rfl
@[simp] theorem State.resetRegisters_s2 : s.resetRegisters.s2 = true := rfl
@[simp] theorem State.resetRegisters_prev : s.resetRegisters.prev = true := rfl
@[simp] theorem State.resetRegisters_bpc : BitVec.toNat (w := s.params.bpcWidth) s.resetRegisters.bpc = 0 := by
  simp [State.resetRegisters, State.resetAt]
@[simp] theorem State.resetRegisters_settle : BitVec.toNat (w := s.params.settleWidth) s.resetRegisters.settle = 0 := by
  simp [State.resetRegisters, State.resetAt]
@[simp] theorem State.resetRegisters_cph : BitVec.toNat (w := s.params.cphWidth) s.resetRegisters.cph = 0 := by
  simp [State.resetRegisters, State.resetAt]
@[simp] theorem State.resetRegisters_rsp : s.resetRegisters.rsp = 0 := rfl
@[simp] theorem State.resetRegisters_rspValid : s.resetRegisters.rspValid = false := rfl
@[simp] theorem State.resetRegisters_inputs : s.resetRegisters.inputs = s.inputs := rfl
@[simp] theorem State.resetRegisters_drawn : s.resetRegisters.drawn = s.drawn := rfl

end

section
variable (g0 l : Bool) (s : State)

@[simp] theorem State.carrierSyncPhase_params : (s.carrierSyncPhase g0 l).params = s.params := rfl
@[simp] theorem State.carrierSyncPhase_toArch : (s.carrierSyncPhase g0 l).toArch = s.toArch := rfl
@[simp] theorem State.carrierSyncPhase_s1 : (s.carrierSyncPhase g0 l).s1 = l := rfl
@[simp] theorem State.carrierSyncPhase_s2 : (s.carrierSyncPhase g0 l).s2 = s.s1 := rfl
@[simp] theorem State.carrierSyncPhase_prev : (s.carrierSyncPhase g0 l).prev = s.s2 := rfl
@[simp] theorem State.carrierSyncPhase_bpc : BitVec.toNat (w := s.params.bpcWidth) (s.carrierSyncPhase g0 l).bpc = s.bpc.toNat := rfl
@[simp] theorem State.carrierSyncPhase_settle : BitVec.toNat (w := s.params.settleWidth) (s.carrierSyncPhase g0 l).settle = s.settle.toNat := rfl
@[simp] theorem State.carrierSyncPhase_cph : (s.carrierSyncPhase g0 l).cph =
    if g0 && s.gate then BitVec.ofNat _ ((s.cph.toNat + 1) % s.params.carrierDiv) else 0 := rfl
@[simp] theorem State.carrierSyncPhase_rsp : (s.carrierSyncPhase g0 l).rsp = s.rsp := rfl
@[simp] theorem State.carrierSyncPhase_rspValid : (s.carrierSyncPhase g0 l).rspValid = s.rspValid := rfl
@[simp] theorem State.carrierSyncPhase_inputs : (s.carrierSyncPhase g0 l).inputs = s.inputs := rfl
@[simp] theorem State.carrierSyncPhase_drawn : (s.carrierSyncPhase g0 l).drawn = s.drawn := rfl

end

section
variable (s : State) (inp : Inputs) (rest : List Inputs)

/-- With a record in the schedule the ports show it. -/
theorem State.portsNow_cons (h : s.inputs = inp :: rest) : s.portsNow = inp := by
  simp [State.portsNow, h]

/-- With the schedule over, nothing is presented and the line level is drawn. -/
theorem State.portsNow_nil (h : s.inputs = []) : s.portsNow = Inputs.silent (Config.irRx s.drawn) := by
  simp [State.portsNow, h]

/-- Taking a record leaves the rest of the schedule and nothing else changed. -/
theorem State.portsTaken_cons (h : s.inputs = inp :: rest) : s.portsTaken = { s with inputs := rest } := by
  simp [State.portsTaken, h]

/-- With the schedule over, only the number of draws changes. -/
theorem State.portsTaken_nil (h : s.inputs = []) : s.portsTaken = { s with drawn := s.drawn + 1 } := by
  simp [State.portsTaken, h]

end

section
variable (s : State)

@[simp] theorem State.portsTaken_params : s.portsTaken.params = s.params := by
  unfold State.portsTaken; split <;> rfl

@[simp] theorem State.portsTaken_toArch : s.portsTaken.toArch = s.toArch := by
  unfold State.portsTaken; split <;> rfl

@[simp] theorem State.portsTaken_s1 : s.portsTaken.s1 = s.s1 := by
  unfold State.portsTaken; split <;> rfl

@[simp] theorem State.portsTaken_s2 : s.portsTaken.s2 = s.s2 := by
  unfold State.portsTaken; split <;> rfl

@[simp] theorem State.portsTaken_prev : s.portsTaken.prev = s.prev := by
  unfold State.portsTaken; split <;> rfl

@[simp] theorem State.portsTaken_bpc : s.portsTaken.bpc.toNat = s.bpc.toNat := by
  unfold State.portsTaken; split <;> rfl

@[simp] theorem State.portsTaken_settle : s.portsTaken.settle.toNat = s.settle.toNat := by
  unfold State.portsTaken; split <;> rfl

@[simp] theorem State.portsTaken_cph : s.portsTaken.cph.toNat = s.cph.toNat := by
  unfold State.portsTaken; split <;> rfl

@[simp] theorem State.portsTaken_rsp : s.portsTaken.rsp = s.rsp := by
  unfold State.portsTaken; split <;> rfl

@[simp] theorem State.portsTaken_rspValid : s.portsTaken.rspValid = s.rspValid := by
  unfold State.portsTaken; split <;> rfl

end

end Sys2Proof.Machine
end

