-- ==== Sys2Proof/Laws/Ops.lean ====
section
/-! SUPPORT. One lemma per shared operation, saying once everything it can do. -/

namespace Sys2Proof.Machine

/-- Everything a command does: the architectural registers and the response of the event level, `rsp_valid`, and
for an accepted SEND the bit-period counter (43_cycle_level.md R198). -/
theorem exec_eq (i : Instr) (s : State) : exec i s = .next
    { s.answer (s.toArch.command i s.s2) with
      bpc := match i with
        | .send _ => if s.sendBusy then s.bpc else 0
        | _ => s.bpc } := by
  cases i <;> rfl

/-- SEND is turned away and changes nothing, or the link was free and the frame is loaded. -/
theorem Arch.send_cases (b : Byte) (a : Arch) :
    (a.sendBusy = true ∧ a.send b = (a, 0x0000)) ∨
    (a.mode = .idle ∧ a.rxActive = false ∧ a.send b = (a.loadFrame b, 0x0001)) := by
  unfold Arch.send
  cases h : a.sendBusy
  · right
    simp [Arch.sendBusy] at h
    exact ⟨h.1, h.2, rfl⟩
  · exact .inl ⟨rfl, rfl⟩

/-- SET_CARRIER is turned away and changes nothing, or no session was active and the carrier is set. -/
theorem Arch.setCarrier_cases (en : Bool) (a : Arch) :
    (a.sessionActive = true ∧ a.setCarrier en = (a, 0x0000)) ∨
    (a.mode ≠ .tx ∧ a.rxActive = false ∧
      a.setCarrier en = (if en then a.carrierOn else a.carrierOff, 0x0001)) := by
  unfold Arch.setCarrier
  cases h : a.sessionActive
  · right
    simp [Arch.sessionActive, Arch.txActive] at h
    exact ⟨h.1, h.2, rfl⟩
  · exact .inl ⟨rfl, rfl⟩

/-- RECEIVE_BYTE leaves a session alone, or answers the slot, empties it and arms the trigger in IDLE. -/
theorem Arch.receiveByte_cases (a : Arch) :
    (a.rxActive = true ∧ a.receiveByte = (a, 0xFFFF)) ∨
    (a.rxActive = false ∧ a.mode = .idle ∧ a.receiveByte = ({ a.clearSlot with armed := true }, a.slotResponse)) ∨
    (a.rxActive = false ∧ a.mode ≠ .idle ∧ a.receiveByte = (a.clearSlot, a.slotResponse)) := by
  unfold Arch.receiveByte
  cases h : a.rxActive
  · right
    by_cases hm : a.mode = .idle
    · exact .inl ⟨rfl, hm, by simp [hm]⟩
    · exact .inr ⟨rfl, hm, by simp [hm]; rfl⟩
  · exact .inl ⟨rfl, rfl⟩

/-- TX_TICK emits a bit, and the twelfth of a session ends it. -/
theorem Arch.txTick_cases (a : Arch) :
    (a.txCount ≠ 11 ∧ a.txTick = a.emitBit) ∨ (a.txCount = 11 ∧ a.txTick = a.emitBit.endTransmit) := by
  have key : a.txCount + 1 = 12#4 ↔ a.txCount = 11 := by
    generalize a.txCount = c; revert c; decide
  unfold Arch.txTick
  by_cases h : a.txCount = 11
  · exact .inr ⟨h, if_pos (key.mpr h)⟩
  · exact .inl ⟨h, if_neg (fun hc => h (key.mp hc))⟩

/-- EDGE does nothing with a valid slot, else it starts a session. -/
theorem Arch.edge_cases (a : Arch) :
    (a.resValid = true ∧ a.edge = a) ∨ (a.resValid = false ∧ a.edge = a.startReceive) := by
  unfold Arch.edge Arch.edgeEffective
  cases a.resValid <;> simp

/-- The check of a received word commits its payload, or rejects it. -/
theorem checkFrame_cases (w : RxWord) :
    (parity8 (candidate w) = w.getLsbD 8 ∧ w.getLsbD 9 = true ∧ checkFrame w = .commit (candidate w)) ∨
    (parity8 (candidate w) ≠ w.getLsbD 8 ∧ checkFrame w = .rejectParity) ∨
    (parity8 (candidate w) = w.getLsbD 8 ∧ w.getLsbD 9 = false ∧ checkFrame w = .rejectStop) := by
  unfold checkFrame receivedParity receivedStop
  cases parity8 (candidate w) <;> cases w.getLsbD 8 <;> cases w.getLsbD 9 <;> simp

/-- A completed session commits its payload, or rejects it; either way it is over. -/
theorem Arch.completeReceive_cases (a : Arch) :
    (checkFrame a.rxAcc = .commit (candidate a.rxAcc) ∧
      a.completeReceive = a.endReceive.fillSlot (candidate a.rxAcc)) ∨
    ((∀ c, checkFrame a.rxAcc ≠ .commit c) ∧ a.completeReceive = a.endReceive.reject) := by
  unfold Arch.completeReceive
  rcases checkFrame_cases a.rxAcc with ⟨-, -, h⟩ | ⟨-, h⟩ | ⟨-, -, h⟩
  · exact .inl ⟨h, by rw [h]⟩
  · exact .inr ⟨by simp [h], by rw [h]⟩
  · exact .inr ⟨by simp [h], by rw [h]⟩

/-- RX_TICK samples a bit, and the tenth of a session completes it. -/
theorem Arch.rxTick_cases (level : Bool) (a : Arch) :
    (a.rxCount ≠ 9 ∧ a.rxTick level = a.sampleBit level) ∨
    (a.rxCount = 9 ∧ a.rxTick level = (a.sampleBit level).completeReceive) := by
  have key : a.rxCount + 1 = 10#4 ↔ a.rxCount = 9 := by
    generalize a.rxCount = c; revert c; decide
  unfold Arch.rxTick
  by_cases h : a.rxCount = 9
  · exact .inr ⟨h, if_pos (key.mpr h)⟩
  · exact .inl ⟨h, if_neg (fun hc => h (key.mp hc))⟩

/-- Everything phase 1 can do: wait out the settling delay, tick, count, or nothing (R195, R196). -/
theorem State.timerPhase_cases (level : Bool) (s : State) :
    (s.rxActive = true ∧ 0 < s.settle.toNat ∧ s.timerPhase level = { s with settle := s.settle - 1 }) ∨
    (s.mode = .tx ∧ s.bpc.toNat = s.params.bitDiv - 1 ∧
      s.timerPhase level = { s with bpc := 0, toArch := s.toArch.txTick }) ∨
    (s.mode ≠ .tx ∧ s.rxActive = true ∧ s.settle.toNat = 0 ∧ s.bpc.toNat = s.params.bitDiv - 1 ∧
      s.timerPhase level = { s with bpc := 0, toArch := s.toArch.rxTick level }) ∨
    (s.sessionActive = true ∧ s.bpc.toNat ≠ s.params.bitDiv - 1 ∧ s.timerPhase level = { s with bpc := s.bpc + 1 }) ∨
    (s.sessionActive = false ∧ s.timerPhase level = s) := by
  unfold State.timerPhase State.tick
  by_cases h1 : s.rxActive = true ∧ 0 < s.settle.toNat
  · exact .inl ⟨h1.1, h1.2, by simp [h1]⟩
  · have h1' : (s.rxActive && decide (0 < s.settle.toNat)) = false := by simpa using h1
    rw [h1']
    cases h2 : s.sessionActive
    · exact .inr (.inr (.inr (.inr ⟨rfl, by simp⟩)))
    · by_cases h3 : s.bpc.toNat = s.params.bitDiv - 1
      · by_cases h4 : s.mode = .tx
        · exact .inr (.inl ⟨h4, h3, by simp [h3, h4]⟩)
        · have hr : s.rxActive = true := by simpa [Arch.sessionActive, Arch.txActive, h4] using h2
          have hs : s.settle.toNat = 0 := by simpa [hr] using h1
          exact .inr (.inr (.inl ⟨h4, hr, hs, h3, by simp [h3, h4]⟩))
      · exact .inr (.inr (.inr (.inl ⟨rfl, h3, by simp [h3]⟩)))

/-- Everything phase 2 can do: nothing, or start a session and its settling delay (R197). An EDGE on a valid slot
changes nothing. -/
theorem State.edgePhase_cases (fall : Bool) (s : State) :
    ((fall = false ∨ s.armed = false ∨ s.resValid = true) ∧ s.edgePhase fall = s) ∨
    (fall = true ∧ s.armed = true ∧ s.resValid = false ∧
      s.edgePhase fall =
        { s with toArch := s.toArch.startReceive, settle := BitVec.ofNat _ s.params.settleDiv, bpc := 0 }) := by
  unfold State.edgePhase Arch.edgeEffective Arch.edge Arch.edgeEffective
  cases fall <;> cases h : s.armed <;> cases h' : s.resValid <;> simp

/-- The state phase 3 leaves (R198). -/
theorem State.commandPhase_eq (inp : Inputs) (s : State) : s.commandPhase inp =
    if inp.cmdValid then exec (decode inp.word) s else .next { s with rspValid := false } := rfl

/-- Phase 3 always completes, and touches only the architectural registers, `bpc`, `rsp` and `rsp_valid`. -/
theorem State.commandPhase_next (inp : Inputs) (s : State) :
    ∃ a bpc rsp v, s.commandPhase inp = .next { s with toArch := a, bpc := bpc, rsp := rsp, rspValid := v } := by
  rw [State.commandPhase_eq]
  split
  · rw [exec_eq]; exact ⟨_, _, _, _, rfl⟩
  · exact ⟨s.toArch, s.bpc, s.rsp, false, rfl⟩

/-- Phase 3 and the cycle-level registers: the synchroniser, `settle` and `cph` stay, and `bpc` stays or is cleared. -/
theorem State.commandPhase_counters (inp : Inputs) (s : State) : ∃ u, s.commandPhase inp = .next u ∧
    u.params = s.params ∧ (u.bpc.toNat = s.bpc.toNat ∨ u.bpc.toNat = 0) ∧ u.settle.toNat = s.settle.toNat ∧
    u.cph.toNat = s.cph.toNat ∧ u.s1 = s.s1 ∧ u.s2 = s.s2 ∧ u.prev = s.prev := by
  rw [State.commandPhase_eq]
  split
  · rw [exec_eq]
    refine ⟨_, rfl, rfl, ?_, rfl, rfl, rfl, rfl, rfl⟩
    cases decode inp.word <;> try exact .inl rfl
    cases s.sendBusy
    · exact .inr (by simp)
    · exact .inl rfl
  · exact ⟨_, rfl, rfl, .inl rfl, rfl, rfl, rfl, rfl, rfl⟩

/-- A cycle without reset, once its command phase is known (R192). -/
theorem cycle_of_commandPhase (inp : Inputs) (s t : State) (hr : inp.rst = false)
    (h : ((s.timerPhase s.s2).edgePhase s.fall).commandPhase inp = .next t) :
    cycle inp s = .next (t.carrierSyncPhase s.gate inp.irRx) := by
  have h' : ((s.timerPhase s.lineRead).edgePhase s.fall).commandPhase inp = .next t := h
  simp [cycle, hr, h']

/-- A cycle under reset (70_reset_and_hazards.md R250). -/
theorem cycle_of_reset (inp : Inputs) (s : State) (hr : inp.rst = true) :
    cycle inp s = .next s.resetRegisters := by
  simp [cycle, hr]

/-- Two runs in a row are one run. -/
theorem cycles_append (xs ys : List Inputs) (s t : State) (h : cycles xs s = .next t) :
    cycles (xs ++ ys) s = cycles ys t := by
  induction xs generalizing s with
  | nil => simp [cycles] at h; simp [h]
  | cons x xs ih =>
    simp only [cycles, List.cons_append] at h ⊢
    split at h
    · exact ih _ h
    · cases h
    · cases h

end Sys2Proof.Machine
end

