-- ==== Sys2Proof/Laws/Fairness.lean ====
section
/-! SUPPORT. Behaviours of the event level: one lemma per function on them, what an event can do to a session, and that
a host which keeps its duties reads every result. -/

namespace Sys2Proof.Machine

/-! ### What an event can do to a session -/

/-- In a transmit session only TX_TICK touches the transmitter: any other event leaves its registers alone. -/
theorem Event.apply_in_transmit (e : Event) (a : Arch) (hm : a.mode = .tx) :
    e = .txTick ∨ ((e.apply a).mode = .tx ∧ (e.apply a).txShift = a.txShift ∧ (e.apply a).txCount = a.txCount ∧
      (e.apply a).gate = a.gate) := by
  cases e with
  | txTick => exact .inl rfl
  | edge =>
    right
    rcases Arch.edge_cases a with ⟨-, h⟩ | ⟨-, h⟩ <;> simp [Event.apply, h, hm]
  | rxTick level =>
    right
    rcases Arch.rxTick_cases level a with ⟨-, h⟩ | ⟨-, h⟩
    · simp [Event.apply, h, hm]
    · rcases Arch.completeReceive_cases (a.sampleBit level) with ⟨-, h'⟩ | ⟨-, h'⟩ <;> simp [Event.apply, h, h', hm]
  | command i level =>
    right
    cases i with
    | send b =>
      rcases Arch.send_cases b a with ⟨-, h⟩ | ⟨h, -⟩
      · simp [Event.apply, Arch.command, h, hm]
      · simp [hm] at h
    | setCarrier en =>
      rcases Arch.setCarrier_cases en a with ⟨-, h⟩ | ⟨h, -⟩
      · simp [Event.apply, Arch.command, h, hm]
      · exact absurd hm h
    | receiveByte =>
      rcases Arch.receiveByte_cases a with ⟨-, h⟩ | ⟨-, -, h⟩ | ⟨-, -, h⟩ <;>
        simp [Event.apply, Arch.command, h, hm]
    | isSending => exact ⟨hm, rfl, rfl, rfl⟩
    | available => exact ⟨hm, rfl, rfl, rfl⟩
    | isReceiving => exact ⟨hm, rfl, rfl, rfl⟩
    | detectCarrier => exact ⟨hm, rfl, rfl, rfl⟩
    | reserved7 => exact ⟨hm, rfl, rfl, rfl⟩

/-- In a receive session a command changes nothing, and only RX_TICK ends it. -/
theorem Event.apply_in_receive (e : Event) (a : Arch) (hr : a.rxActive = true) :
    (∃ level, e = .rxTick level) ∨ e = .edge ∨ e = .txTick ∨ e.apply a = a := by
  cases e with
  | rxTick level => exact .inl ⟨level, rfl⟩
  | edge => exact .inr (.inl rfl)
  | txTick => exact .inr (.inr (.inl rfl))
  | command i level =>
    refine .inr (.inr (.inr ?_))
    cases i with
    | send b =>
      rcases Arch.send_cases b a with ⟨-, h⟩ | ⟨-, h, -⟩
      · simp [Event.apply, Arch.command, h]
      · simp [hr] at h
    | setCarrier en =>
      rcases Arch.setCarrier_cases en a with ⟨-, h⟩ | ⟨-, h, -⟩
      · simp [Event.apply, Arch.command, h]
      · simp [hr] at h
    | receiveByte =>
      rcases Arch.receiveByte_cases a with ⟨-, h⟩ | ⟨h, -⟩ | ⟨h, -⟩
      · simp [Event.apply, Arch.command, h]
      · simp [hr] at h
      · simp [hr] at h
    | isSending => rfl
    | available => rfl
    | isReceiving => rfl
    | detectCarrier => rfl
    | reserved7 => rfl

/-- Only RX_TICK ends a receive session. -/
theorem Event.apply_keeps_rxActive (e : Event) (a : Arch) (hr : a.rxActive = true) (he : ∀ level, e ≠ .rxTick level) :
    (e.apply a).rxActive = true := by
  rcases Event.apply_in_receive e a hr with ⟨level, h⟩ | rfl | rfl | h
  · exact absurd h (he level)
  · rcases Arch.edge_cases a with ⟨-, h⟩ | ⟨-, h⟩ <;> simp [Event.apply, h, hr]
  · rcases Arch.txTick_cases a with ⟨-, h⟩ | ⟨-, h⟩ <;> simp [Event.apply, h, hr]
  · rw [h]; exact hr

/-- A pending byte outside a session stays, and no session starts, until RECEIVE_BYTE. -/
theorem Event.apply_keeps_result (e : Event) (a : Arch) (hv : a.resValid = true) (hr : a.rxActive = false)
    (en : e.enabled a = true) (he : ∀ level, e ≠ .command .receiveByte level) :
    (e.apply a).resValid = true ∧ (e.apply a).resData = a.resData ∧ (e.apply a).rxActive = false := by
  cases e with
  | rxTick level => simp [Event.enabled, hr] at en
  | edge =>
    rcases Arch.edge_cases a with ⟨-, h⟩ | ⟨h, -⟩
    · simp [Event.apply, h, hv, hr]
    · simp [hv] at h
  | txTick => rcases Arch.txTick_cases a with ⟨-, h⟩ | ⟨-, h⟩ <;> simp [Event.apply, h, hv, hr]
  | command i level =>
    cases i with
    | send b => rcases Arch.send_cases b a with ⟨-, h⟩ | ⟨-, -, h⟩ <;> simp [Event.apply, Arch.command, h, hv, hr]
    | setCarrier c =>
      rcases Arch.setCarrier_cases c a with ⟨-, h⟩ | ⟨-, -, h⟩ <;> cases c <;>
        simp [Event.apply, Arch.command, h, hv, hr]
    | receiveByte => exact absurd rfl (he level)
    | isSending => exact ⟨hv, rfl, hr⟩
    | available => exact ⟨hv, rfl, hr⟩
    | isReceiving => exact ⟨hv, rfl, hr⟩
    | detectCarrier => exact ⟨hv, rfl, hr⟩
    | reserved7 => exact ⟨hv, rfl, hr⟩

/-- RECEIVE_BYTE outside a session answers the pending byte (41_receive.md R138). -/
theorem Arch.receiveByte_answers_slot (level : Bool) (a : Arch) (hv : a.resValid = true) (hr : a.rxActive = false) :
    (Event.command .receiveByte level).response a = some (byteResponse a.resData) := by
  simp [Event.response, Arch.command, Arch.receiveByte, Arch.slotResponse, hv, hr]

/-! ### Kinds of events and behaviours -/

@[simp] theorem Event.isTxTick_iff (e : Event) : e.isTxTick = true ↔ e = .txTick := by
  cases e <;> simp [Event.isTxTick]

@[simp] theorem Event.isRxTick_iff (e : Event) : e.isRxTick = true ↔ ∃ level, e = .rxTick level := by
  cases e <;> simp [Event.isRxTick]

/-- Some TX_TICK is enabled exactly in TX (60_exceptions.md R227). -/
theorem exists_txTick_enabled (a : Arch) :
    (∃ e : Event, e.isTxTick = true ∧ e.enabled a = true) ↔ a.mode = .tx := by
  simp [Event.enabled, Arch.txActive]

/-- Some RX_TICK is enabled exactly in a receive session (60_exceptions.md R227). -/
theorem exists_rxTick_enabled (a : Arch) :
    (∃ e : Event, e.isRxTick = true ∧ e.enabled a = true) ↔ a.rxActive = true := by
  constructor
  · rintro ⟨e, he, h⟩
    obtain ⟨level, rfl⟩ := (Event.isRxTick_iff e).mp he
    exact h
  · exact fun h => ⟨.rxTick true, rfl, h⟩

variable {b : Behaviour}

@[simp] theorem Behaviour.state_zero : b.state 0 = b.start := rfl

/-- Where nothing happens, nothing changes. -/
theorem Behaviour.state_of_none {n : Nat} (h : b.event n = none) : b.state (n + 1) = b.state n := by
  simp [Behaviour.state, h]

/-- Where an event happens, its rule says what it leaves. -/
theorem Behaviour.state_of_some {n : Nat} {e : Event} (h : b.event n = some e) :
    b.state (n + 1) = e.apply (b.state n) := by
  simp [Behaviour.state, h]

/-- A property that every event that may happen keeps holds at every later moment. -/
theorem Behaviour.state_induction (P : Arch → Prop) (hb : b.possible) (n : Nat) (h0 : P (b.state n))
    (hs : ∀ k e, n ≤ k → P (b.state k) → b.event k = some e → e.enabled (b.state k) = true → P (e.apply (b.state k)))
    (m : Nat) (hm : n ≤ m) : P (b.state m) := by
  induction m, hm using Nat.le_induction with
  | base => exact h0
  | succ k hk ih =>
    cases he : b.event k with
    | none => rw [Behaviour.state_of_none he]; exact ih
    | some e => rw [Behaviour.state_of_some he]; exact hs k e hk ih he (hb k e he)

/-- What weak fairness of a kind gives: if a property that enables it is kept by every event of another kind, then an
event of the kind happens, and till the first such event the property holds. -/
theorem Behaviour.weaklyFair_happens {isKind : Event → Bool} (hw : b.weaklyFair isKind) (P : Arch → Prop) (n : Nat)
    (h0 : P (b.state n)) (hen : ∀ a, P a → ∃ e, isKind e = true ∧ e.enabled a = true)
    (hs : ∀ k e, n ≤ k → P (b.state k) → b.event k = some e → isKind e = false → P (e.apply (b.state k))) :
    ∃ m e, n ≤ m ∧ b.event m = some e ∧ isKind e = true ∧
      ∀ k, n ≤ k → k ≤ m → P (b.state k) ∧ (k < m → ∀ e', b.event k = some e' → isKind e' = false) := by
  classical
  have keep : ∀ m, (∀ k e, n ≤ k → k < m → b.event k = some e → isKind e = false) → n ≤ m → P (b.state m) := by
    intro m hno hm
    induction m, hm using Nat.le_induction with
    | base => exact h0
    | succ k hk ih =>
      have hP := ih (fun j e h1 h2 => hno j e h1 (by omega))
      cases he : b.event k with
      | none => rw [Behaviour.state_of_none he]; exact hP
      | some e => rw [Behaviour.state_of_some he]; exact hs k e hk hP he (hno k e hk (by omega) he)
  have hex : ∃ m, n ≤ m ∧ ∃ e, b.event m = some e ∧ isKind e = true := by
    by_contra hc
    push Not at hc
    have hall : ∀ m, n ≤ m → ∃ e, isKind e = true ∧ e.enabled (b.state m) = true :=
      fun m hm => hen _ (keep m (fun k e h1 _ h2 => by simpa using hc k h1 e h2) hm)
    obtain ⟨m, e, hm, he, hk⟩ := hw n hall
    exact hc m hm e he hk
  obtain ⟨hm, e, he, hk⟩ := Nat.find_spec hex
  have hmin : ∀ k e', n ≤ k → k < Nat.find hex → b.event k = some e' → isKind e' = false := fun k e' h1 h2 h3 => by
    by_contra hc
    exact Nat.find_min hex h2 ⟨h1, e', h3, by simpa using hc⟩
  exact ⟨_, e, hm, he, hk, fun k h1 h2 =>
    ⟨keep k (fun j e' h3 h4 h5 => hmin j e' h3 (by omega) h5) h1, fun h3 e' h4 => hmin k e' h1 h3 h4⟩⟩

/-- Where no event of the kind happens, there is none to count. -/
theorem Behaviour.countFrom_eq_zero {isKind : Event → Bool} (n k : Nat)
    (h : ∀ j, j < k → ∀ e, b.event (n + j) = some e → isKind e = false) : b.countFrom isKind n k = 0 := by
  induction k with
  | zero => rfl
  | succ k ih =>
    rw [Behaviour.countFrom, ih (fun j hj => h j (by omega))]
    cases he : b.event (n + k) with
    | none => simp
    | some e => simp [h k (by omega) e he]

/-- The events of two stretches in a row are counted together. -/
theorem Behaviour.countFrom_add (isKind : Event → Bool) (n k l : Nat) :
    b.countFrom isKind n (k + l) = b.countFrom isKind n k + b.countFrom isKind (n + k) l := by
  induction l with
  | zero => rfl
  | succ l ih => rw [← Nat.add_assoc, Behaviour.countFrom, ih, Behaviour.countFrom, Nat.add_assoc, Nat.add_assoc]

/-- Two runs in a row are one run. -/
theorem Arch.run_append (xs ys : List Event) (a x : Arch) (h : Arch.run xs a = some x) :
    Arch.run (xs ++ ys) a = Arch.run ys x := by
  induction xs generalizing a with
  | nil => simp [Arch.run] at h; simp [h]
  | cons e xs ih =>
    simp only [Arch.run, List.cons_append] at h ⊢
    split at h
    · rename_i he; rw [if_pos he]; exact ih _ h
    · cases h

/-- What happens before a moment of a behaviour is a run (`Arch.run`) to the registers of that moment. -/
theorem Behaviour.run_to_state (hb : b.possible) (n : Nat) :
    Arch.run ((List.range n).filterMap b.event) b.start = some (b.state n) := by
  induction n with
  | zero => rfl
  | succ n ih =>
    rw [List.range_succ, List.filterMap_append, Arch.run_append _ _ _ _ ih]
    cases he : b.event n with
    | none => simp [he, Arch.run, Behaviour.state_of_none he]
    | some e => simp [he, Arch.run, Behaviour.state_of_some he, hb n e he]

/-- A host that keeps its duties reads every result: the byte pending outside a session is the one that a later
RECEIVE_BYTE answers (60_exceptions.md R238, 70_reset_and_hazards.md R256). -/
theorem Behaviour.pending_byte_is_read (hb : b.possible) (hd : b.hostKeepsDuties) (n : Nat)
    (hv : (b.state n).resValid = true) (hr : (b.state n).rxActive = false) :
    ∃ m level, n ≤ m ∧ b.event m = some (.command .receiveByte level) ∧
      (Event.command .receiveByte level).response (b.state m) = some (byteResponse (b.state n).resData) := by
  classical
  have hex : ∃ m, n ≤ m ∧ ∃ level, b.event m = some (.command .receiveByte level) := by
    obtain ⟨m, level, hm, he⟩ := hd.2 n (by simp [Arch.resultAvailable, hv, hr])
    exact ⟨m, hm, level, he⟩
  obtain ⟨hm, level, he⟩ := Nat.find_spec hex
  have hfirst : ∀ k, n ≤ k → k < Nat.find hex → ∀ level, b.event k ≠ some (.command .receiveByte level) :=
    fun k hk hlt level h => Nat.find_min hex hlt ⟨hk, level, h⟩
  have hkeep : ∀ k, n ≤ k → k ≤ Nat.find hex → (b.state k).resValid = true ∧
      (b.state k).resData = (b.state n).resData ∧ (b.state k).rxActive = false := by
    intro k hk
    induction k, hk using Nat.le_induction with
    | base => exact fun _ => ⟨hv, rfl, hr⟩
    | succ k hk ih =>
      intro hle
      obtain ⟨h1, h2, h3⟩ := ih (by omega)
      cases hek : b.event k with
      | none => rw [Behaviour.state_of_none hek]; exact ⟨h1, h2, h3⟩
      | some e =>
        rw [Behaviour.state_of_some hek]
        have := Event.apply_keeps_result e (b.state k) h1 h3 (hb k e hek)
          (fun level h => hfirst k hk (by omega) level (by rw [hek, h]))
        exact ⟨this.1, this.2.1.trans h2, this.2.2⟩
  obtain ⟨h1, h2, h3⟩ := hkeep _ hm le_rfl
  exact ⟨_, level, hm, he, h2 ▸ Arch.receiveByte_answers_slot level _ h1 h3⟩

end Sys2Proof.Machine
end

