-- ==== Sys2Proof/Laws/PerInstr.lean ====
section
/-! SUPPORT. Facts about every command as syntax, one lemma per constructor. -/

namespace Sys2Proof.Laws

/-- The word of a command carries its opcode number and its argument in the fields of 30_encoding.md R88. -/
def FieldsOfWord.Statement (i : Instr) : Prop :=
  (encode i).op = i.opcode ∧ (encode i).arg = i.argument

/-- The opcode field of `{op, arg}` is `op` (R88). -/
theorem cmdWord_op (op : Opcode) (arg : Byte) : (cmdWord op arg).op = op := by
  apply BitVec.eq_of_getLsbD_eq
  intro k hk
  simp only [cmdWord, CmdWord.op, BitVec.getLsbD_extractLsb', BitVec.getLsbD_append]
  simp [show ¬ (8 + k < 8) by omega, hk, show 8 + k - 8 = k by omega]

/-- The argument field of `{op, arg}` is `arg` (R88). -/
theorem cmdWord_arg (op : Opcode) (arg : Byte) : (cmdWord op arg).arg = arg := by
  apply BitVec.eq_of_getLsbD_eq
  intro k hk
  simp only [cmdWord, CmdWord.arg, BitVec.getLsbD_extractLsb', BitVec.getLsbD_append]
  simp [hk]

theorem FieldsOfWord.send (b : Byte) : FieldsOfWord.Statement (.send b) := ⟨cmdWord_op _ _, cmdWord_arg _ _⟩
theorem FieldsOfWord.isSending : FieldsOfWord.Statement .isSending := ⟨cmdWord_op _ _, cmdWord_arg _ _⟩
theorem FieldsOfWord.available : FieldsOfWord.Statement .available := ⟨cmdWord_op _ _, cmdWord_arg _ _⟩
theorem FieldsOfWord.receiveByte : FieldsOfWord.Statement .receiveByte := ⟨cmdWord_op _ _, cmdWord_arg _ _⟩
theorem FieldsOfWord.isReceiving : FieldsOfWord.Statement .isReceiving := ⟨cmdWord_op _ _, cmdWord_arg _ _⟩
theorem FieldsOfWord.setCarrier (en : Bool) : FieldsOfWord.Statement (.setCarrier en) := ⟨cmdWord_op _ _, cmdWord_arg _ _⟩
theorem FieldsOfWord.detectCarrier : FieldsOfWord.Statement .detectCarrier := ⟨cmdWord_op _ _, cmdWord_arg _ _⟩
theorem FieldsOfWord.reserved7 : FieldsOfWord.Statement .reserved7 := ⟨cmdWord_op _ _, cmdWord_arg _ _⟩

end Sys2Proof.Laws
end

