-- ==== Sys2Proof/Laws/Widths.lean ====
section
/-! SUPPORT. What the widths of the three counters hold (10_state.md R34), and what counting does to their numbers. -/

namespace Sys2Proof

/-- `BIT_DIV` values fit in `bpc`. -/
theorem Params.bitDiv_le (p : Params) : p.bitDiv ≤ 2 ^ p.bpcWidth := Nat.le_pow_clog (by decide) _

/-- `SETTLE_DIV` fits in `settle`. -/
theorem Params.settleDiv_lt (p : Params) : p.settleDiv < 2 ^ p.settleWidth := Nat.le_pow_clog (by decide) _

/-- `CARRIER_DIV` values fit in `cph`. -/
theorem Params.carrierDiv_le (p : Params) : p.carrierDiv ≤ 2 ^ p.cphWidth := Nat.le_pow_clog (by decide) _

namespace Machine

/-- Below its last value `bpc` counts up by one (43_cycle_level.md R196). -/
theorem bpc_succ_toNat {p : Params} (c : BitVec p.bpcWidth) (h : c.toNat + 1 < p.bitDiv) :
    (c + 1).toNat = c.toNat + 1 := by
  have hw : c.toNat + 1 < 2 ^ p.bpcWidth := Nat.lt_of_lt_of_le h p.bitDiv_le
  have h1 : (1 : BitVec p.bpcWidth).toNat = 1 := by
    rw [show (1 : BitVec p.bpcWidth) = BitVec.ofNat _ 1 from rfl, BitVec.toNat_ofNat, Nat.mod_eq_of_lt]
    omega
  rw [BitVec.toNat_add, h1, Nat.mod_eq_of_lt hw]

/-- Above 0 a register counts down by one (43_cycle_level.md R195). -/
theorem counter_pred_toNat {w : Nat} (c : BitVec w) (h : 0 < c.toNat) : (c - 1).toNat = c.toNat - 1 := by
  have := c.isLt
  rcases w with _ | w
  · omega
  · rw [BitVec.toNat_sub_of_le] <;> simp [BitVec.le_def]
    omega

/-- What an effective EDGE loads into `settle` is `SETTLE_DIV` (43_cycle_level.md R197). -/
theorem settle_load_toNat (p : Params) : (BitVec.ofNat p.settleWidth p.settleDiv).toNat = p.settleDiv := by
  rw [BitVec.toNat_ofNat, Nat.mod_eq_of_lt p.settleDiv_lt]

/-- What phase 4 stores into `cph` is a remainder by `CARRIER_DIV` (43_cycle_level.md R199). -/
theorem cph_load_toNat (p : Params) (n : Nat) (h : 0 < p.carrierDiv) :
    (BitVec.ofNat p.cphWidth (n % p.carrierDiv)).toNat = n % p.carrierDiv := by
  rw [BitVec.toNat_ofNat, Nat.mod_eq_of_lt (Nat.lt_of_lt_of_le (Nat.mod_lt _ h) p.carrierDiv_le)]

/-- The number in `cph` after phase 4 (43_cycle_level.md R199). -/
theorem State.carrierSyncPhase_cph_toNat (g0 l : Bool) (s : State) (h : 0 < s.params.carrierDiv) :
    (s.carrierSyncPhase g0 l).cph.toNat =
      if g0 = true ∧ s.gate = true then (s.cph.toNat + 1) % s.params.carrierDiv else 0 := by
  have e : (if g0 && s.gate then BitVec.ofNat s.params.cphWidth ((s.cph.toNat + 1) % s.params.carrierDiv) else 0).toNat =
      if g0 = true ∧ s.gate = true then (s.cph.toNat + 1) % s.params.carrierDiv else 0 := by
    cases g0 <;> cases s.gate <;> simp only [Bool.and_true, Bool.and_false, Bool.false_eq_true, if_false, if_true,
      and_true, and_false, cph_load_toNat _ _ h] <;> rfl
  exact e

end Machine

end Sys2Proof
end

