-- ==== Sys2Proof/Tests/Slice0.lean ====
section
/-! SUPPORT. Tests of the model against the spec's own words and vectors (95_test_vectors.md), the smoke test of
WellFormed, and for every statement with hypotheses a concrete state that meets them. -/

namespace Sys2Proof.Tests

open Sys2Proof.Machine

/-! ### Helpers -/

/-- A link of the configuration `TINY` with the given architectural registers, every other register as after reset. -/
def link (a : Arch) : State := { State.resetAt Config.tiny with toArch := a }

/-- What a command leaves: the architectural registers and the response. -/
def seen (o : Host.Outcome State Fault Refusal) : Option (Arch × Response) :=
  match o with
  | .next t => some (t.toArch, t.rsp)
  | .fault _ => none
  | .refused _ => none

/-- H of 95_test_vectors.md section 0: holding 0x53, trigger disarmed. -/
def holding : Arch := { Arch.reset with armed := false, resValid := true, resData := 0x53 }

/-- L1: armed, slot full. -/
def armedFull : Arch := { Arch.reset with resValid := true, resData := 0x53 }

/-- R: receiving, three samples of 0x53 taken. -/
def receiving : Arch := { Arch.reset with armed := false, rxActive := true, rxAcc := 0x003, rxCount := 3 }

/-- T0: transmitting 0x53, before the first tick. -/
def sending : Arch := { Arch.reset with armed := false, mode := .tx, txShift := 0x4A7 }

/-- T1: transmitting 0x53, after the first tick. -/
def sendingOn : Arch := { sending with txShift := 0x253, txCount := 1, gate := true }

/-- Transmitting 0x53 after eleven ticks (V2). -/
def sendingLast : Arch := { sending with txShift := 0x000, txCount := 11, gate := true }

/-- Receiving 0x53 after nine samples (V3). -/
def receivingLast : Arch := { receiving with rxAcc := 0x053, rxCount := 9 }

/-- C: carrier sense. -/
def sensing : Arch := { Arch.reset with armed := false, mode := .cs, gate := true }

/-- A cycle in which the host presents a word, the line idle. -/
def presents (w : CmdWord) : Inputs :=
  { rst := false, cmdValid := true, cmdOp := w.op, cmdArg := w.arg, irRx := true }

/-! ### Decoding: words written out from 30_encoding.md R88, R89 -/

theorem test_decode_send : decode 0b00001010011 = .send 0x53 := by decide
theorem test_decode_isSending : decode 0b00110000001 = .isSending := by decide
theorem test_decode_available : decode 0b01000000000 = .available := by decide
theorem test_decode_receiveByte : decode 0b01111111111 = .receiveByte := by decide
theorem test_decode_isReceiving : decode 0b10000000000 = .isReceiving := by decide
theorem test_decode_setCarrier_on : decode 0b10111111111 = .setCarrier true := by decide
theorem test_decode_setCarrier_off : decode 0b10111111110 = .setCarrier false := by decide
theorem test_decode_detectCarrier : decode 0b11000000000 = .detectCarrier := by decide
theorem test_decode_reserved7 : decode 0b11110101010 = .reserved7 := by decide

/-- A number that does not fit the port is rejected by name. -/
theorem test_decode_too_wide :
    (match decodeNat 0x800 with | .error .widerThanElevenBits => true | .ok _ => false) = true := by decide

theorem test_table_word : decodeTableWord 16 0x0A5 = some (.send 0xA5) ∧ decodeTableWord 16 0x800 = none := by decide

/-! ### WellFormed refuses the ill-formed -/

theorem test_wellFormed_refuses_reserved : Instr.reserved7.wellFormed = false := by decide
theorem test_wellFormed_takes_operations :
    [Instr.send 0xFF, .isSending, .available, .receiveByte, .isReceiving, .setCarrier true, .detectCarrier].all
      Instr.wellFormed = true := by decide
theorem test_bitDiv_one_refused : (Params.mk 1 0 2).bitDivLegal = false := by decide
theorem test_settleDiv_as_bitDiv_refused : (Params.mk 4 4 2).settleDivLegal = false := by decide
theorem test_carrierDiv_odd_or_zero_refused :
    (Params.mk 4 2 3).carrierDivLegal = false ∧ (Params.mk 4 2 0).carrierDivLegal = false := by decide
theorem test_named_configurations_legal :
    Config.ref.wellFormed = true ∧ Config.tiny.wellFormed = true := by decide

theorem test_ref_clock_without_frequency_refused :
    ({ Config.refClocking with fClk := 0 } : Clocking).frequenciesLegal = false ∧
    ({ Config.refClocking with fCarrier := 0 } : Clocking).frequenciesLegal = false := by
  norm_num [Clocking.frequenciesLegal, Config.refClocking]
theorem test_bitDiv_of_another_clock_refused :
    Config.ref.bitDivClocked { Config.refClocking with fClk := 1000000 } = false := by
  norm_num [Params.bitDivClocked, Config.ref, Config.refClocking, Config.nominalTBit]
theorem test_carrierDiv_of_another_clock_refused :
    Config.ref.carrierDivClocked { Config.refClocking with fClk := 1000000 } = false := by
  norm_num [Params.carrierDivClocked, Config.ref, Config.refClocking, Config.nominalFCarrier]
/-- R6: "38 carrier periods per bit"; 70_reset_and_hazards.md R270: 12 ms for twelve bit periods. -/
theorem test_ref_times :
    Config.ref.bitDiv / Config.ref.carrierDiv = 38 ∧
    Config.refClocking.duration (12 * Config.ref.bitDiv) = 12 / 1000 := by
  norm_num [Clocking.duration, Config.ref, Config.refClocking]

/-! ### Frames (V1, V4) -/

theorem test_frame_vectors :
    frame 0x00 = 0x401 ∧ frame 0xFF = 0x5FF ∧ frame 0x80 = 0x701 ∧ frame 0xA5 = 0x54B ∧ frame 0x7F = 0x6FF := by decide
theorem test_check_vectors :
    checkFrame 0x253 = .commit 0x53 ∧ checkFrame 0x353 = .rejectParity ∧ checkFrame 0x053 = .rejectStop ∧
    checkFrame 0x100 = .rejectParity ∧ checkFrame 0x3FE = .commit 0xFE := by decide

/-! ### Commands (S4 to S7, V5, V7, V8) -/

theorem test_send_from_reset : seen (exec (.send 0x53) State.reset) = some (sending, 0x0001) := by decide
theorem test_send_busy_in_carrier_sense : seen (exec (.send 0xA5) (link sensing)) = some (sensing, 0x0000) := by decide
theorem test_isSending : seen (exec .isSending (link sendingOn)) = some (sendingOn, 0x0001) := by decide
theorem test_isSending_in_carrier_sense : seen (exec .isSending (link sensing)) = some (sensing, 0x0000) := by decide
theorem test_available : seen (exec .available (link holding)) = some (holding, 0x0001) := by decide
theorem test_available_empty : seen (exec .available State.reset) = some (Arch.reset, 0x0000) := by decide
theorem test_receiveByte : seen (exec .receiveByte (link holding)) = some (Arch.reset, 0x0053) := by decide
theorem test_receiveByte_in_session : seen (exec .receiveByte (link receiving)) = some (receiving, 0xFFFF) := by decide
theorem test_isReceiving : seen (exec .isReceiving (link receiving)) = some (receiving, 0x0001) := by decide
theorem test_isReceiving_listening : seen (exec .isReceiving State.reset) = some (Arch.reset, 0x0000) := by decide
theorem test_setCarrier_on : seen (exec (.setCarrier true) State.reset) = some (sensing, 0x0001) := by decide
theorem test_setCarrier_off_holding : seen (exec (.setCarrier false) (link holding)) = some (armedFull, 0x0001) := by decide
theorem test_detectCarrier_low :
    seen (exec .detectCarrier { State.reset with s2 := false }) = some (Arch.reset, 0x0001) := by decide
theorem test_detectCarrier_high : seen (exec .detectCarrier State.reset) = some (Arch.reset, 0x0000) := by decide
theorem test_reserved7 : seen (exec .reserved7 (link holding)) = some (holding, 0x0000) := by decide

/-! ### Internal events (V2, V3, V6, R133's example) -/

theorem test_txTick_first : sending.txTick = sendingOn := by decide
theorem test_txTick_twelfth : sendingLast.txTick = Arch.reset := by decide
theorem test_edge_effective : Arch.reset.edge = { receiving with rxAcc := 0, rxCount := 0 } := by decide
theorem test_edge_on_full_slot : armedFull.edge = armedFull := by decide
theorem test_rxTick_example :
    ({ receiving with rxCount := 4 } : Arch).rxTick false = { receiving with rxAcc := 0x013, rxCount := 5 } := by decide
theorem test_rxTick_tenth_commits : receivingLast.rxTick false = holding := by decide
theorem test_rxTick_tenth_rejects : receivingLast.rxTick true = Arch.reset := by decide

/-! ### Cycles (T2, T3, T4) and the step -/

theorem test_T2a_edge_before_send :
    (match cycle (presents 0x053) { State.resetAt Config.tiny with s1 := false, s2 := false } with
      | .next t => decide (t.rxActive = true ∧ t.armed = false ∧ t.settle.toNat = 2 ∧ t.mode = .idle ∧ t.rsp = 0x0000)
      | _ => false) = true := by decide
theorem test_T3a_send_in_last_tick_cycle :
    (match cycle (presents 0x0A5) { link sendingLast with bpc := 3 } with
      | .next t => decide (t.toArch = { sending with txShift := 0x54B } ∧ t.bpc.toNat = 0 ∧ t.rsp = 0x0001)
      | _ => false) = true := by decide
theorem test_T3c_receiveByte_in_commit_cycle :
    (match cycle (presents 0x300) { link receivingLast with bpc := 3, s2 := false, prev := false } with
      | .next t => decide (t.toArch = Arch.reset ∧ t.rsp = 0x0053)
      | _ => false) = true := by decide
theorem test_T4_carrier_phase_wraps :
    (match cycle (Inputs.silent false)
        { State.resetAt { bitDiv := 8, settleDiv := 4, carrierDiv := 4 } with toArch := sensing, cph := 3 } with
      | .next t => decide (t.cph.toNat = 0 ∧ t.irTx = true)
      | _ => false) = true := by decide
theorem test_step_runs_fetch_word :
    (seen (step (State.reset.withFetchWord 16 0x053))) = some (sending, 0x0001) := by decide

/-! ### Witnesses: a state that meets the hypotheses of each statement, clause by clause -/

/-- Registers with a steady transmitter, receiver and gate meet the invariants. -/
theorem inv_reset : Arch.reset.Inv := by constructor <;> decide
theorem inv_sensing : sensing.Inv := by constructor <;> decide
theorem inv_holding : holding.Inv := by constructor <;> decide
theorem inv_receiving : receiving.Inv := by constructor <;> decide
theorem inv_receivingLast : receivingLast.Inv := by constructor <;> decide
theorem inv_sending : sending.Inv := by
  constructor
  case transmitting => exact fun _ => ⟨by decide, 0x53, by decide, by decide⟩
  all_goals decide
theorem inv_sendingLast : sendingLast.Inv := by
  constructor
  case transmitting => exact fun _ => ⟨by decide, 0x53, by decide, by decide⟩
  all_goals decide

theorem test_witness_SendLoadsFrameOrIsBusy :
    ((0x053 : CmdWord).extractLsb' 8 3 = 0 ∧ (0x053 : CmdWord).extractLsb' 0 8 = 0x53) ∧
    (link sending).mode ≠ .idle ∧ (link sensing).mode ≠ .idle ∧ (link receiving).rxActive = true ∧
    (State.reset.mode = .idle ∧ State.reset.rxActive = false) := by decide
theorem test_witness_QueryWords :
    (0x1FF : CmdWord).extractLsb' 8 3 = 1 ∧ (0x200 : CmdWord).extractLsb' 8 3 = 2 ∧
    (0x300 : CmdWord).extractLsb' 8 3 = 3 ∧ (0x400 : CmdWord).extractLsb' 8 3 = 4 ∧
    (0x600 : CmdWord).extractLsb' 8 3 = 6 ∧ (0x7FF : CmdWord).extractLsb' 8 3 = 7 := by decide
theorem test_witness_ReceiveByteReturnsAndEmptiesSlot :
    (link receiving).rxActive = true ∧ (link holding).rxActive = false ∧
    (∃ t, exec .receiveByte (link holding) = .next t) := ⟨rfl, rfl, _, rfl⟩
theorem test_witness_SetCarrierOnHoldsCarrierOrIsBusy :
    ((0x5FF : CmdWord).extractLsb' 8 3 = 5 ∧ (0x5FF : CmdWord).getLsbD 0 = true) ∧
    (link sending).mode = .tx ∧ (link receiving).rxActive = true ∧
    ((link sensing).mode ≠ .tx ∧ (link sensing).rxActive = false) ∧
    ((link sensing).toArch.Inv ∧ (link sensing).mode = .cs ∧
      (Event.command .receiveByte true).enabled (link sensing).toArch = true ∧
      ∀ level, Event.command .receiveByte true ≠ .command (.setCarrier false) level) :=
  ⟨by decide, by decide, by decide, by decide, inv_sensing, by decide, by decide, fun _ h => by cases h⟩
theorem test_witness_SetCarrierOffReturnsToListeningOrIsBusy :
    ((0x5FE : CmdWord).extractLsb' 8 3 = 5 ∧ (0x5FE : CmdWord).getLsbD 0 = false) ∧
    (link sending).mode = .tx ∧ (link receiving).rxActive = true ∧
    ((link sensing).mode ≠ .tx ∧ (link sensing).rxActive = false) := by decide
theorem test_witness_ResponsesAreBoolsBytesOrNoData :
    Instr.send 0 ≠ .receiveByte ∧ Instr.receiveByte = .receiveByte := by decide
theorem test_witness_IgnoredBitsChangeNothing :
    ((0x100 : CmdWord).extractLsb' 8 3 ≠ 0 ∧ (0x100 : CmdWord).extractLsb' 8 3 ≠ 5 ∧
      (0x1FF : CmdWord).extractLsb' 8 3 = (0x100 : CmdWord).extractLsb' 8 3) ∧
    ((0x501 : CmdWord).extractLsb' 8 3 = 5 ∧ (0x5FF : CmdWord).extractLsb' 8 3 = 5 ∧
      (0x5FF : CmdWord).getLsbD 0 = (0x501 : CmdWord).getLsbD 0) := by decide
theorem test_witness_StepRunsThePresentedCommand :
    ∃ (s t : State), s.inputs = [presents 0x053] ∧ (presents 0x053).rst = false ∧
      (presents 0x053).cmdValid = true ∧
      decode ((presents 0x053).cmdOp ++ (presents 0x053).cmdArg) = .send 0x53 ∧
      exec (.send 0x53) ((({ s with inputs := [] } : State).timerPhase s.s2).edgePhase
        (s.prev && !s.s2)) = .next t :=
  ⟨{ State.reset with inputs := [presents 0x053] }, _, rfl, rfl, rfl, by decide, rfl⟩
theorem test_witness_StepWithoutCommandKeepsResponse :
    ({ link sensing with inputs := [Inputs.silent false] } : State).inputs = [Inputs.silent false] ∧
    (Inputs.silent false).rst = false ∧ (Inputs.silent false).cmdValid = false := by decide
theorem test_witness_StepUnderResetIsReset :
    ({ link sendingOn with inputs := [{ presents 0x501 with rst := true }] } : State).inputs =
      [{ presents 0x501 with rst := true }] ∧ ({ presents 0x501 with rst := true } : Inputs).rst = true := by decide
theorem test_witness_StepAfterScheduleDrawsLine : (link sending).inputs = [] := rfl
theorem test_witness_TxTickEmitsOneBit :
    sending.txCount + 1 ≠ 12 ∧ sendingLast.txCount + 1 = 12 ∧
    ((link sending).mode = .tx ∧ (link sending).rxActive = false ∧
      ({ link sending with bpc := 3 } : State).bpc.toNat = Config.tiny.bitDiv - 1 ∧
      (link sending).bpc.toNat ≠ Config.tiny.bitDiv - 1) := by decide
theorem test_witness_TwelfthTxTickEndsSession :
    sendingLast.Inv ∧ sendingLast.mode = .tx ∧ sendingLast.txCount = 11 := ⟨inv_sendingLast, rfl, rfl⟩
theorem test_witness_EdgeStartsASession :
    (link holding).armed = false ∧ ((link armedFull).armed = true ∧ (link armedFull).resValid = true) ∧
    (State.reset.armed = true ∧ State.reset.resValid = false) := by decide
theorem test_witness_RxTickSamplesOneBit :
    receiving.rxCount + 1 ≠ 10 ∧ ((link receiving).mode = .idle ∧ (link receiving).rxActive = true) ∧
    0 < ({ link receiving with settle := 2 } : State).settle.toNat ∧
    ((link receiving).settle.toNat = 0 ∧ ({ link receiving with bpc := 3 } : State).bpc.toNat = Config.tiny.bitDiv - 1 ∧
      (link receiving).bpc.toNat ≠ Config.tiny.bitDiv - 1) := by decide
theorem test_witness_TenthRxTickCommitsOrRejects :
    receivingLast.rxCount + 1 = 10 ∧
    (0x253 : RxWord) =
      receivingLast.rxAcc ||| ((BitVec.ofBool (!false)).setWidth 10 <<< receivingLast.rxCount.toNat) ∧
    (parity8 ((0x253 : RxWord).extractLsb' 0 8) = (0x253 : RxWord).getLsbD 8 ∧ (0x253 : RxWord).getLsbD 9 = true) ∧
    (0x053 : RxWord) =
      receivingLast.rxAcc ||| ((BitVec.ofBool (!true)).setWidth 10 <<< receivingLast.rxCount.toNat) ∧
    (0x053 : RxWord).getLsbD 9 = false ∧
    (0x252 : RxWord) = ({ receivingLast with rxAcc := 0x052 } : Arch).rxAcc |||
      ((BitVec.ofBool (!false)).setWidth 10 <<< receivingLast.rxCount.toNat) ∧
    parity8 ((0x252 : RxWord).extractLsb' 0 8) ≠ (0x252 : RxWord).getLsbD 8 := by decide
theorem test_witness_SessionsIgnoreCommands : receiving.rxActive = true ∧ sending.mode = .tx := by decide
theorem test_witness_OddErrorsAreDetected :
    checkFrame 0x253 = .commit 0x53 ∧ onesBelow 9 (0x001 : RxWord) % 2 = 1 ∧ (0x200 : RxWord).getLsbD 9 = true ∧
    (onesBelow 9 (0x003 : RxWord) % 2 = 0 ∧ (0x003 : RxWord).getLsbD 9 = false) := by decide
theorem test_witness_SessionEmitsTheFrame : holding.mode = .idle ∧ holding.rxActive = false := by decide
theorem test_witness_RoundTripDeliversTheByte :
    holding.mode = .idle ∧ holding.rxActive = false ∧ Arch.reset.armed = true ∧ Arch.reset.resValid = false := by decide
theorem test_witness_ShiftRegisterFormIsEquivalent :
    [true, true, false, false, true, false, true, false, false, true].length = 10 ∧
    Arch.reset.rxAcc = 0 ∧ Arch.reset.rxCount = 0 := by decide
theorem test_witness_ResetMeetsTheInvariants : Config.tiny.wellFormed = true := by decide
theorem test_witness_EventsKeepTheInvariants :
    (sendingLast.Inv ∧ Event.txTick.enabled sendingLast = true) ∧
    (receivingLast.Inv ∧ (Event.rxTick false).enabled receivingLast = true) ∧
    (Arch.reset.Inv ∧ Event.edge.enabled Arch.reset = true) ∧
    (holding.Inv ∧ (Event.command (.send 0xA5) true).enabled holding = true) :=
  ⟨⟨inv_sendingLast, rfl⟩, ⟨inv_receivingLast, rfl⟩, ⟨inv_reset, rfl⟩, inv_holding, rfl⟩
theorem inv_link_holding : (link holding).Inv :=
  ⟨by decide, inv_holding, by decide, by decide, by decide, by decide, by decide, by decide⟩
theorem test_witness_StepKeepsTheInvariants :
    ∃ t, (link holding).Inv ∧ step (link holding) = .next t := ⟨_, inv_link_holding, rfl⟩
/-- `TINY` at the clauses' boundaries: the counter below its last value, the delay at its least value above 0, and
R34's widths of both named configurations. -/
theorem test_witness_CountersCountWithoutWrapping :
    (link holding).Inv ∧ (link holding).bpc.toNat ≠ (link holding).params.bitDiv - 1 ∧
    ({ link Arch.reset.edge with settle := 1 } : State).Inv ∧
    0 < ({ link Arch.reset.edge with settle := 1 } : State).settle.toNat :=
  ⟨inv_link_holding, by decide,
    ⟨by decide, by constructor <;> decide, by decide, by decide, by decide, by decide, by decide, by decide⟩, by decide⟩
theorem test_counter_widths :
    (Config.tiny.bpcWidth = 2 ∧ Config.tiny.settleWidth = 2 ∧ Config.tiny.cphWidth = 1) ∧
    (Config.ref.bpcWidth = 11 ∧ Config.ref.settleWidth = 10 ∧ Config.ref.cphWidth = 5) := by decide
/-- A counter out of its range, which no run reaches, wraps at its width: 7 in the three bits of `BIT_DIV` = 5. -/
theorem test_bpc_wraps_at_its_width :
    (({ State.resetAt { bitDiv := 5, settleDiv := 2, carrierDiv := 2 } with toArch := sending, bpc := 7 } : State).timerPhase
      true).bpc.toNat = 0 := by decide
theorem test_witness_ArbiterStatements :
    (holding.Inv ∧ (Event.command (.send 0xA5) true).enabled holding = true ∧
      (Event.command (.send 0xA5) true).apply holding ≠ holding ∧
      ((Event.command (.send 0xA5) true).apply holding).mode ≠ .idle) ∧
    (sensing.mode ≠ .idle ∧ (Event.command (.setCarrier false) true).enabled sensing = true ∧
      ((Event.command (.setCarrier false) true).apply sensing).mode = .idle ∧ sensing.Inv) :=
  ⟨⟨inv_holding, rfl, by decide, by decide⟩, by decide, rfl, by decide, inv_sensing⟩
theorem test_witness_GateHasOneDriver :
    (Event.txTick.enabled sending = true ∧ (Event.txTick.apply sending).gate ≠ sending.gate) ∧
    ((Event.command (.setCarrier true) true).enabled Arch.reset = true ∧
      ((Event.command (.setCarrier true) true).apply Arch.reset).gate ≠ Arch.reset.gate) := by decide
theorem test_witness_CycleRefinesTheEventLevel :
    ∃ (s t : State), s.portsNow.rst = false ∧ step s = .next t ∧ s.portsNow.cmdValid = true :=
  ⟨{ State.reset with inputs := [presents 0x053] }, _, rfl, rfl, rfl⟩
theorem test_witness_CycleRefinesTheEventLevel_silent :
    ∃ (s t : State), s.portsNow.rst = false ∧ step s = .next t ∧ s.portsNow.cmdValid = false :=
  ⟨{ State.reset with inputs := [Inputs.silent true] }, _, rfl, rfl, rfl⟩
theorem test_witness_SynchroniserDelaysTheLine :
    (presents 0x053).rst = false ∧ (Inputs.silent false).rst = false ∧ (Inputs.silent true).rst = false := by decide
theorem test_witness_CommandsReadNoSequencerState :
    (link holding).toArch = ({ link holding with bpc := 3, s1 := false } : State).toArch ∧
    (link holding).s2 = ({ link holding with bpc := 3, s1 := false } : State).s2 := by decide
theorem test_witness_TransmitterIgnoresTheLine :
    (link sendingOn).mode = .tx ∧ (link sendingOn).rxActive = false ∧ (link sendingOn).armed = false ∧
    (link sendingOn).txCount ≠ 11 ∧ (link sendingLast).bpc.toNat ≠ Config.tiny.bitDiv - 1 ∧
    (presents 0x100).rst = false ∧ decode (presents 0x100).word ≠ .detectCarrier := by decide
theorem test_witness_DisarmedEdgeLeavesNoTrace :
    (link holding).armed = false ∧ (link holding).mode ≠ .tx ∧ (link holding).rxActive = false := by decide
theorem test_witness_HoldingLinkIsStable :
    (link armedFull).mode = .idle ∧ (link armedFull).rxActive = false ∧ (link armedFull).resValid = true ∧
    (Inputs.silent false).rst = false ∧ (Inputs.silent false).cmdValid = false := by decide
theorem test_witness_PendingResultClosesTheReceiver :
    (link holding).Inv ∧ (link holding).resValid = true ∧ (presents 0x0A5).rst = false ∧
    ((presents 0x0A5).cmdValid = true → decode (presents 0x0A5).word ≠ .receiveByte) :=
  ⟨inv_link_holding, rfl, rfl, by decide⟩
theorem test_witness_SteadyCarrierIsASquareWave :
    Config.tiny.wellFormed = true ∧ (link sensing).mode = .cs ∧ (link sensing).rxActive = false ∧
    (link sensing).armed = false ∧ (link sensing).gate = true ∧ (link sensing).cph.toNat = 0 ∧
    noReset [Inputs.silent false, Inputs.silent true] ∧ noCommand [Inputs.silent false, Inputs.silent true] := by
  refine ⟨by decide, rfl, rfl, rfl, rfl, rfl, ?_, ?_⟩ <;> intro i hi <;> simp at hi <;> rcases hi with rfl | rfl <;> rfl
theorem test_witness_CarrierPhaseFollowsTheGate :
    ∃ t u v, Config.tiny.wellFormed = true ∧ (presents 0x501).rst = false ∧
      (cycle (presents 0x501) (State.resetAt Config.tiny) = .next t ∧ (State.resetAt Config.tiny).gate = false ∧ t.gate = true) ∧
      (cycle (presents 0x501) (link sensing) = .next u ∧ (link sensing).gate = true ∧ u.gate = true) ∧
      (cycle (presents 0x500) (link sensing) = .next v ∧ v.gate = false) :=
  ⟨_, _, _, by decide, rfl, ⟨rfl, rfl, rfl⟩, ⟨rfl, rfl, rfl⟩, rfl, rfl⟩
theorem test_witness_SendInTheCycleOfTheLastTick :
    (link sendingLast).mode = .tx ∧ (link sendingLast).rxActive = false ∧ (link sendingLast).txCount = 11 ∧
    ({ link sendingLast with bpc := 3 } : State).bpc.toNat = Config.tiny.bitDiv - 1 ∧
    (presents 0x0A5).rst = false ∧ (presents 0x0A5).cmdValid = true ∧ decode (presents 0x0A5).word = .send 0xA5 ∧
    (link sendingLast).s2 = true ∧
    (({ link sendingLast with s2 := false } : State).prev = true ∧
      ({ link sendingLast with s2 := false } : State).s2 = false ∧ (link sendingLast).resValid = false) := by decide
theorem test_witness_ReceiveByteInTheCycleOfTheCommit :
    (link receivingLast).mode = .idle ∧ (link receivingLast).rxActive = true ∧ (link receivingLast).settle.toNat = 0 ∧
    (link receivingLast).rxCount = 9 ∧ ({ link receivingLast with bpc := 3 } : State).bpc.toNat = Config.tiny.bitDiv - 1 ∧
    checkFrame (receivingLast.rxAcc |||
      ((BitVec.ofBool (!({ link receivingLast with s2 := false } : State).s2)).setWidth 10 <<< 9)) = .commit 0x53 ∧
    (presents 0x300).rst = false ∧ (presents 0x300).cmdValid = true ∧
    decode (presents 0x300).word = .receiveByte := by decide
theorem test_witness_RunConsumesTheSchedule :
    ({ link sending with inputs := [Inputs.silent true, presents 0x100, Inputs.silent false] } : State).inputs =
      [Inputs.silent true, presents 0x100] ++ [Inputs.silent false] := rfl
theorem test_witness_TransmissionTiming :
    Config.tiny.wellFormed = true ∧ (link sending).mode = .tx ∧ (link sending).rxActive = false ∧
    (link sending).armed = false ∧ (link sending).txShift = frame 0x53 ∧ (link sending).txCount = 0 ∧
    (link sending).bpc.toNat = 0 ∧ noReset (List.replicate 48 (Inputs.silent false)) ∧
    (List.replicate 47 (Inputs.silent false)).length < 12 * Config.tiny.bitDiv ∧
    (List.replicate 48 (Inputs.silent false)).length = 12 * Config.tiny.bitDiv ∧
    (∀ inp, (List.replicate 48 (Inputs.silent false)).getLast? = some inp → inp.cmdValid = false) := by
  refine ⟨by decide, rfl, rfl, rfl, by decide, rfl, rfl, ?_, by decide, by decide, ?_⟩
  · intro i hi; rw [List.eq_of_mem_replicate hi]; rfl
  · intro i hi; rw [List.eq_of_mem_replicate (List.mem_of_mem_getLast? hi)]; rfl
theorem test_witness_ReceptionTiming :
    Config.tiny.wellFormed = true ∧
    (∃ s : State, s.mode = .idle ∧ s.rxActive = true ∧ s.armed = false ∧ s.resValid = false ∧ s.rxAcc = 0 ∧
      s.rxCount = 0 ∧ s.bpc.toNat = 0 ∧ s.settle.toNat = Config.tiny.settleDiv ∧
      (∀ k < 10, (0x3FF : RxWord).getLsbD k =
        !lineSeen s (List.replicate 42 (Inputs.silent false))
          (Config.tiny.settleDiv + (k + 1) * Config.tiny.bitDiv - 1))) ∧
    noReset (List.replicate 42 (Inputs.silent false)) ∧
    (List.replicate 41 (Inputs.silent false)).length < Config.tiny.settleDiv + 10 * Config.tiny.bitDiv ∧
    (List.replicate 42 (Inputs.silent false)).length = Config.tiny.settleDiv + 10 * Config.tiny.bitDiv ∧
    (∀ inp, (List.replicate 42 (Inputs.silent false)).getLast? = some inp → inp.cmdValid = false) := by
  refine ⟨by decide, ⟨{ link Arch.reset.edge with settle := 2 }, ?_⟩, ?_, by decide, by decide, ?_⟩
  · decide
  · intro i hi; rw [List.eq_of_mem_replicate hi]; rfl
  · intro i hi; rw [List.eq_of_mem_replicate (List.mem_of_mem_getLast? hi)]; rfl
/-- The clause of a committed frame: nine samples of an idle line and a low stop sample spell 0x200, the frame of
payload 0x00. -/
theorem test_witness_ReceptionTiming_commit :
    (∀ k < 10, (0x200 : RxWord).getLsbD k =
      !lineSeen { link Arch.reset.edge with settle := 2 }
        (List.replicate 39 (Inputs.silent true) ++ List.replicate 3 (Inputs.silent false))
        (Config.tiny.settleDiv + (k + 1) * Config.tiny.bitDiv - 1)) ∧
    checkFrame 0x200 = .commit 0x00 ∧ (∀ c, checkFrame 0x3FF ≠ .commit c) := by
  refine ⟨by decide, by decide, fun c h => ?_⟩
  have h' : checkFrame 0x3FF = .rejectParity := by decide
  rw [h'] at h
  cases h
theorem test_witness_EndToEndDelivery : Config.tiny.wellFormed = true ∧ Config.ref.wellFormed = true := by decide

/-! ### Fairness -/

/-- The behaviour in which the given events happen one after another, and then nothing. -/
def playing (es : List Event) (a : Arch) : Behaviour := { start := a, event := fun n => es[n]? }

theorem playing_state_succ (e : Event) (es : List Event) (a : Arch) (n : Nat) :
    (playing (e :: es) a).state (n + 1) = (playing es (e.apply a)).state n := by
  induction n with
  | zero => rfl
  | succ n ih => rw [Behaviour.state, ih]; rfl

theorem playing_possible (es : List Event) (a x : Arch) (h : Arch.run es a = some x) : (playing es a).possible := by
  induction es generalizing a with
  | nil => intro n e he; simp [playing] at he
  | cons e es ih =>
    simp only [Arch.run] at h
    split at h
    · rename_i hen
      intro n e' he
      cases n with
      | zero => cases he; exact hen
      | succ n => rw [playing_state_succ]; exact ih _ h n e' he
    · cases h

/-- After the last event the registers are those of the run. -/
theorem playing_state_end (es : List Event) (a x : Arch) (h : Arch.run es a = some x) (n : Nat) (hn : es.length ≤ n) :
    (playing es a).state n = x := by
  rw [← Option.some_inj, ← Behaviour.run_to_state (playing_possible es a x h) n, ← h]
  congr 1
  induction es generalizing a n with
  | nil => simp [playing]
  | cons e es ih =>
    simp only [Arch.run] at h
    split at h
    · obtain ⟨n, rfl⟩ : ∃ k, n = k + 1 := ⟨n - 1, by simp at hn; omega⟩
      rw [List.range_succ_eq_map, List.filterMap_cons, List.filterMap_map]
      exact congrArg (e :: ·) (ih _ h n (by simpa using hn))
    · cases h

/-- Silence after the last event is fair where no session is left active. -/
theorem playing_fair (es : List Event) (a x : Arch) (h : Arch.run es a = some x) (hm : x.mode ≠ .tx)
    (hr : x.rxActive = false) : (playing es a).fair := by
  refine ⟨playing_possible es a x h, fun n hall => ?_, fun n hall => ?_⟩
  · have := (exists_txTick_enabled _).mp (hall (n + es.length) (by omega))
    rw [playing_state_end es a x h _ (by omega)] at this
    exact absurd this hm
  · have := (exists_rxTick_enabled _).mp (hall (n + es.length) (by omega))
    rw [playing_state_end es a x h _ (by omega), hr] at this
    cases this

/-- R227: a timer that never ticks in a session is not fair, though nothing happens that may not. -/
theorem test_stalled_sessions_are_unfair :
    (playing [] sending).possible ∧ ¬ (playing [] sending).fair ∧ (playing [] receiving).possible ∧
      ¬ (playing [] receiving).fair := by
  refine ⟨playing_possible [] sending sending rfl, fun h => ?_, playing_possible [] receiving receiving rfl, fun h => ?_⟩
  · obtain ⟨m, e, -, he, -⟩ := h.2.1 0 (fun m _ => (exists_txTick_enabled _).mpr
      (by rw [playing_state_end [] sending sending rfl m (Nat.zero_le m)]; rfl))
    cases he
  · obtain ⟨m, e, -, he, -⟩ := h.2.2 0 (fun m _ => (exists_rxTick_enabled _).mpr
      (by rw [playing_state_end [] receiving receiving rfl m (Nat.zero_le m)]; rfl))
    cases he

/-- R238: a host that never reads a pending result breaks its duty, and a link with nothing to read asks nothing. -/
theorem test_host_duties : ¬ (playing [] holding).hostKeepsDuties ∧ (playing [] Arch.reset).hostKeepsDuties := by
  refine ⟨fun h => ?_, fun n i level he => ?_, fun n h => ?_⟩
  · obtain ⟨m, level, -, he⟩ := h.2 0 rfl
    cases he
  · cases he
  · rw [playing_state_end [] Arch.reset Arch.reset rfl n (Nat.zero_le n)] at h
    cases h

/-- From reset, a whole transmit session of 0x53. -/
def sendingAll : Behaviour := playing (.command (.send 0x53) true :: List.replicate 12 .txTick) Arch.reset

/-- From reset, a whole receive session on an idle line: ten samples of 0, rejected for the stop bit. -/
def receivingAll : Behaviour := playing (.edge :: List.replicate 10 (.rxTick true)) Arch.reset

theorem sendingAll_fair : sendingAll.fair := playing_fair _ _ Arch.reset (by decide) (by decide) rfl
theorem receivingAll_fair : receivingAll.fair := playing_fair _ _ Arch.reset (by decide) (by decide) rfl

theorem test_witness_EnabledTickEventuallyHappens :
    (sendingAll.fair ∧ Event.txTick.enabled (sendingAll.state 1) = true) ∧
    (receivingAll.fair ∧ (Event.rxTick false).enabled (receivingAll.state 1) = true) :=
  ⟨⟨sendingAll_fair, by decide⟩, receivingAll_fair, by decide⟩
/-- The first moment of each session and the moment of its last tick. -/
theorem test_witness_FairSessionsEnd :
    (sendingAll.fair ∧ sendingAll.start.Inv ∧ (sendingAll.state 1).mode = .tx ∧ (sendingAll.state 12).mode = .tx) ∧
    (receivingAll.fair ∧ receivingAll.start.Inv ∧ (receivingAll.state 1).rxActive = true ∧
      (receivingAll.state 10).rxActive = true) :=
  ⟨⟨sendingAll_fair, inv_reset, by decide, by decide⟩, receivingAll_fair, inv_reset, by decide, by decide⟩
/-- An infinite run of the clock: one cycle from the given state, and then a link at rest for ever. -/
def thenAtRest (s : State) : Nat → State
  | 0 => s
  | _ + 1 => State.resetAt Config.tiny

/-- The last bit period of a session of each kind, under a silent line. -/
theorem test_witness_ClockedRunsAreFairBehaviours :
    (Inputs.silent true).rst = false ∧
    ∀ s ∈ [({ link sendingLast with bpc := 3 } : State), { link receivingLast with bpc := 3 }],
      (thenAtRest s 0).Inv ∧ ((thenAtRest s 0).mode = .tx ∨ (thenAtRest s 0).rxActive = true) ∧
      ∀ n, cycle (Inputs.silent true) (thenAtRest s n) = .next (thenAtRest s (n + 1)) := by
  refine ⟨rfl, fun s hs => ?_⟩
  simp only [List.mem_cons, List.not_mem_nil, or_false] at hs
  rcases hs with rfl | rfl
  · exact ⟨⟨by decide, inv_sendingLast, by decide, by decide, by decide, by decide, by decide, by decide⟩, .inl rfl,
      fun n => by cases n <;> rfl⟩
  · exact ⟨⟨by decide, inv_receivingLast, by decide, by decide, by decide, by decide, by decide, by decide⟩, .inr rfl,
      fun n => by cases n <;> rfl⟩

end Sys2Proof.Tests
end

/-! PROOFS. The registers of one link: its invariants (10_state.md R36 to R44), that every event and every clock cycle
keeps them, the reset state, and the widths of the counters (R34). -/

namespace Sys2Proof.Machine

/-! ### What the invariants say in each of the link's four situations

A link in IDLE that is not receiving, a receiving link, a transmitting link, and a link that senses the carrier: in each
the conditional clauses of `Arch.Inv` reduce to plain facts. -/

section
variable {a : Arch}

/-- Outside all sessions the gate is off, and a disarmed trigger means a full slot (R40, R41). -/
theorem Arch.inv_iff_of_listening (hm : a.mode = .idle) (hr : a.rxActive = false) : a.Inv ↔
    a.gate = false ∧ (a.resValid = false → a.armed = true) ∧ (a.txShift = 0 ∧ a.txCount = 0) ∧
    (a.rxAcc = 0 ∧ a.rxCount = 0) ∧ (a.resValid = false → a.resData = 0) := by
  constructor
  · intro h
    exact ⟨h.gateInMode.2 hm, h.idleListens hm hr, h.transmitterClear (by simp [hm]), h.receiverClear hr, h.slotClear⟩
  · rintro ⟨hgate, harmed, htx, hrx, hslot⟩
    exact ⟨by simp [hr], by simp [hr], by simp [hm, hr], by simp [hr], fun _ _ => harmed, by simp [hm, hgate],
      fun _ => htx, by simp [hm], fun _ => hrx, by simp [hr], hslot⟩

/-- A receive session runs in IDLE with the gate off, the trigger disarmed and the slot empty (R37 to R39, R43). -/
theorem Arch.inv_iff_of_receiving (hr : a.rxActive = true) : a.Inv ↔
    a.mode = .idle ∧ a.gate = false ∧ a.armed = false ∧ a.resValid = false ∧ (a.txShift = 0 ∧ a.txCount = 0) ∧
    (a.rxCount ≤ 9 ∧ a.rxAcc.toNat < 2 ^ a.rxCount.toNat) ∧ a.resData = 0 := by
  constructor
  · intro h
    have hm := h.receivingInIdle hr
    have hv := h.receivingSlotEmpty hr
    have harmed : a.armed = false := by
      cases harm : a.armed
      · rfl
      · exact absurd (hr.symm.trans (h.armedInIdle harm).2) (by decide)
    exact ⟨hm, h.gateInMode.2 hm, harmed, hv, h.transmitterClear (by simp [hm]), h.receiving hr, h.slotClear hv⟩
  · rintro ⟨hm, hgate, harmed, hv, htx, hrx, hslot⟩
    exact ⟨by simp [hm], fun _ => hm, by simp [harmed], fun _ => hv, by simp [hr], by simp [hm, hgate],
      fun _ => htx, by simp [hm], by simp [hr], fun _ => hrx, fun _ => hslot⟩

/-- A transmit session shifts out some byte's frame, with the receiver at rest (R36, R38, R41, R42). -/
theorem Arch.inv_iff_of_transmitting (hm : a.mode = .tx) : a.Inv ↔
    a.rxActive = false ∧ a.armed = false ∧
    (a.txCount ≤ 11 ∧ ∃ b : Byte, a.txShift = frame b >>> a.txCount.toNat ∧
      a.gate = (if a.txCount = 0 then false else (frame b).getLsbD (a.txCount.toNat - 1))) ∧
    (a.rxAcc = 0 ∧ a.rxCount = 0) ∧ (a.resValid = false → a.resData = 0) := by
  constructor
  · intro h
    have hr : a.rxActive = false := by simpa [hm] using h.oneOwner.1
    have harmed : a.armed = false := by simpa [hm] using h.armedInIdle
    exact ⟨hr, harmed, h.transmitting hm, h.receiverClear hr, h.slotClear⟩
  · rintro ⟨hr, harmed, htx, hrx, hslot⟩
    exact ⟨by simp [hm, hr], by simp [hr], by simp [harmed], by simp [hr], by simp [hm], by simp [hm], by simp [hm],
      fun _ => htx, fun _ => hrx, by simp [hr], hslot⟩

/-- A link that senses the carrier keeps the gate on, with the transmitter and the receiver at rest (R36, R38, R41). -/
theorem Arch.inv_iff_of_carrierSensing (hm : a.mode = .cs) : a.Inv ↔
    a.rxActive = false ∧ a.armed = false ∧ a.gate = true ∧ (a.txShift = 0 ∧ a.txCount = 0) ∧
    (a.rxAcc = 0 ∧ a.rxCount = 0) ∧ (a.resValid = false → a.resData = 0) := by
  constructor
  · intro h
    have hr : a.rxActive = false := by simpa [hm] using h.oneOwner.2
    have harmed : a.armed = false := by simpa [hm] using h.armedInIdle
    exact ⟨hr, harmed, h.gateInMode.1 hm, h.transmitterClear (by simp [hm]), h.receiverClear hr, h.slotClear⟩
  · rintro ⟨hr, harmed, hgate, htx, hrx, hslot⟩
    exact ⟨by simp [hr], by simp [hr], by simp [harmed], by simp [hr], by simp [hm], by simp [hm, hgate],
      fun _ => htx, by simp [hm], fun _ => hrx, by simp [hr], hslot⟩

end

/-! ### The operations of the event level -/

section
variable {a : Arch}

/-- Within a session's range (R42, R43) a bit counter does not wrap. -/
theorem bitCount_succ_toNat (c : BitCount) (h : c ≤ 11) : (c + 1).toNat = c.toNat + 1 := by
  bv_omega

/-- The guard bit, which the twelfth TX_TICK emits, turns the gate off (R82). -/
theorem frame_guard (b : Byte) : (frame b).getLsbD 11 = false := by
  simp only [frame, BitVec.getLsbD_append]
  simp

theorem Arch.Inv.loadFrame (h : a.Inv) (b : Byte) (hm : a.mode = .idle) (hr : a.rxActive = false) :
    (a.loadFrame b).Inv := by
  obtain ⟨hgate, -, -, hrx, hslot⟩ := (Arch.inv_iff_of_listening hm hr).mp h
  exact (Arch.inv_iff_of_transmitting (by simp)).mpr ⟨hr, rfl, ⟨by simp, b, by simp, hgate⟩, hrx, hslot⟩

/-- Before the twelfth tick the count and the shift go together, and `gate` shows the bit just shifted out. -/
theorem Arch.Inv.emitBit (h : a.Inv) (hm : a.mode = .tx) (hc : a.txCount ≠ 11) : a.emitBit.Inv := by
  obtain ⟨hr, harmed, ⟨hcount, b, hshift, -⟩, hrx, hslot⟩ := (Arch.inv_iff_of_transmitting hm).mp h
  have hsucc := bitCount_succ_toNat a.txCount hcount
  have hne : a.txCount + 1 ≠ 0 := by bv_omega
  have hnext : a.txCount + 1 ≤ 11 := by bv_omega
  refine (Arch.inv_iff_of_transmitting (by simpa using hm)).mpr ⟨hr, harmed, ⟨hnext, b, ?_, ?_⟩, hrx, hslot⟩
  · rw [Arch.emitBit_txShift, Arch.emitBit_txCount, hshift, hsucc, BitVec.shiftRight_add]
  · rw [Arch.emitBit_gate, Arch.emitBit_txCount, if_neg hne, hsucc, hshift, BitVec.getLsbD_ushiftRight,
      Nat.add_zero, Nat.add_sub_cancel]

/-- The twelfth tick has shifted the frame out whole, and its guard bit leaves the gate off. -/
theorem Arch.Inv.emitBit_endTransmit (h : a.Inv) (hm : a.mode = .tx) (hc : a.txCount = 11) :
    a.emitBit.endTransmit.Inv := by
  obtain ⟨hr, -, ⟨-, b, hshift, -⟩, hrx, hslot⟩ := (Arch.inv_iff_of_transmitting hm).mp h
  have hgate : a.txShift.getLsbD 0 = false := by simpa [hshift, hc] using frame_guard b
  have hempty : a.txShift >>> 1 = 0 := by
    rw [hshift, hc, ← BitVec.shiftRight_add]
    exact BitVec.ushiftRight_eq_zero (by decide)
  exact (Arch.inv_iff_of_listening (by simp) (by simpa using hr)).mpr ⟨hgate, fun _ => rfl, ⟨hempty, rfl⟩, hrx, hslot⟩

theorem Arch.Inv.startReceive (h : a.Inv) (harmed : a.armed = true) (hv : a.resValid = false) :
    a.startReceive.Inv := by
  obtain ⟨hm, hr⟩ := h.armedInIdle harmed
  obtain ⟨hgate, -, htx, -, hslot⟩ := (Arch.inv_iff_of_listening hm hr).mp h
  exact (Arch.inv_iff_of_receiving (by simp)).mpr ⟨hm, hgate, rfl, hv, htx, ⟨by simp, by simp⟩, hslot hv⟩

/-- A sample put at bit `n` of an accumulator of `n` bits makes one of `n + 1` bits (R43, R133). -/
theorem rxAcc_or_sample_lt (acc : RxWord) (bit : Bool) (n : Nat) (h : acc.toNat < 2 ^ n) :
    (acc ||| ((BitVec.ofBool bit).setWidth 10 <<< n)).toNat < 2 ^ (n + 1) := by
  have hshift : ((BitVec.ofBool bit).setWidth 10 <<< n).toNat < 2 ^ (n + 1) := by
    have hbit : ((BitVec.ofBool bit).setWidth 10).toNat ≤ 1 := by cases bit <;> decide
    calc _ ≤ ((BitVec.ofBool bit).setWidth 10).toNat <<< n := by
          rw [BitVec.toNat_shiftLeft]; exact Nat.mod_le _ _
      _ ≤ 1 * 2 ^ n := by rw [Nat.shiftLeft_eq]; exact Nat.mul_le_mul_right _ hbit
      _ < 2 ^ (n + 1) := by rw [pow_succ]; have := Nat.two_pow_pos n; omega
  rw [BitVec.toNat_or]
  exact Nat.or_lt_two_pow (h.trans (Nat.pow_lt_pow_succ (by decide))) hshift

theorem Arch.Inv.sampleBit (h : a.Inv) (level : Bool) (hr : a.rxActive = true) (hc : a.rxCount ≠ 9) :
    (a.sampleBit level).Inv := by
  obtain ⟨hm, hgate, harmed, hv, htx, ⟨hcount, hacc⟩, hslot⟩ := (Arch.inv_iff_of_receiving hr).mp h
  have hsucc := bitCount_succ_toNat a.rxCount (by bv_omega)
  have hnext : a.rxCount + 1 ≤ 9 := by bv_omega
  refine (Arch.inv_iff_of_receiving (by simpa using hr)).mpr ⟨hm, hgate, harmed, hv, htx, ⟨hnext, ?_⟩, hslot⟩
  rw [Arch.sampleBit_rxCount, hsucc]
  exact rxAcc_or_sample_lt _ _ _ hacc

/-- A session that ends by a commit leaves a full slot, one that ends by a reject an armed trigger: R40 in both cases. -/
theorem Arch.Inv.sampleBit_completeReceive (h : a.Inv) (level : Bool) (hr : a.rxActive = true) :
    (a.sampleBit level).completeReceive.Inv := by
  obtain ⟨hm, hgate, -, -, htx, -, -⟩ := (Arch.inv_iff_of_receiving hr).mp h
  rcases Arch.completeReceive_cases (a.sampleBit level) with ⟨-, hcommit⟩ | ⟨-, hreject⟩
  · rw [hcommit]
    exact (Arch.inv_iff_of_listening (by simpa using hm) (by simp)).mpr
      ⟨hgate, by simp, htx, ⟨by simp, by simp⟩, by simp⟩
  · rw [hreject]
    exact (Arch.inv_iff_of_listening (by simpa using hm) (by simp)).mpr
      ⟨hgate, by simp, htx, ⟨by simp, by simp⟩, by simp⟩

theorem Arch.Inv.carrierOn (h : a.Inv) (hm : a.mode ≠ .tx) (hr : a.rxActive = false) : a.carrierOn.Inv :=
  (Arch.inv_iff_of_carrierSensing (by simp)).mpr
    ⟨hr, rfl, rfl, h.transmitterClear hm, h.receiverClear hr, h.slotClear⟩

theorem Arch.Inv.carrierOff (h : a.Inv) (hm : a.mode ≠ .tx) (hr : a.rxActive = false) : a.carrierOff.Inv :=
  (Arch.inv_iff_of_listening (by simp) (by simpa using hr)).mpr
    ⟨rfl, fun _ => rfl, h.transmitterClear hm, h.receiverClear hr, h.slotClear⟩

/-- RECEIVE_BYTE in IDLE empties the slot, so R40 asks for the trigger that it arms (R139). -/
theorem Arch.Inv.clearSlot_armed (h : a.Inv) (hm : a.mode = .idle) (hr : a.rxActive = false) :
    ({ a.clearSlot with armed := true } : Arch).Inv :=
  (Arch.inv_iff_of_listening (a := { a.clearSlot with armed := true }) hm hr).mpr
    ⟨h.gateInMode.2 hm, fun _ => rfl, h.transmitterClear (by simp [hm]), h.receiverClear hr, fun _ => rfl⟩

/-- Outside IDLE the slot may be emptied with the trigger disarmed. -/
theorem Arch.Inv.clearSlot (h : a.Inv) (hm : a.mode ≠ .idle) : a.clearSlot.Inv :=
  ⟨h.oneOwner, h.receivingInIdle, h.armedInIdle, fun _ => rfl, fun hi => absurd hi hm, h.gateInMode, h.transmitterClear,
    h.transmitting, h.receiverClear, h.receiving, fun _ => rfl⟩

theorem Arch.Inv.txTick (h : a.Inv) (hm : a.mode = .tx) : a.txTick.Inv := by
  rcases Arch.txTick_cases a with ⟨hc, ht⟩ | ⟨hc, ht⟩
  · rw [ht]; exact h.emitBit hm hc
  · rw [ht]; exact h.emitBit_endTransmit hm hc

theorem Arch.Inv.rxTick (h : a.Inv) (level : Bool) (hr : a.rxActive = true) : (a.rxTick level).Inv := by
  rcases Arch.rxTick_cases level a with ⟨hc, ht⟩ | ⟨-, ht⟩
  · rw [ht]; exact h.sampleBit level hr hc
  · rw [ht]; exact h.sampleBit_completeReceive level hr

theorem Arch.Inv.edge (h : a.Inv) (harmed : a.armed = true) : a.edge.Inv := by
  rcases Arch.edge_cases a with ⟨-, he⟩ | ⟨hv, he⟩
  · rw [he]; exact h
  · rw [he]; exact h.startReceive harmed hv

theorem Arch.Inv.command (h : a.Inv) (i : Instr) (level : Bool) : (a.command i level).1.Inv := by
  cases i with
  | send b =>
    rcases Arch.send_cases b a with ⟨-, hs⟩ | ⟨hm, hr, hs⟩
    · simpa [Arch.command, hs] using h
    · simpa [Arch.command, hs] using h.loadFrame b hm hr
  | setCarrier en =>
    rcases Arch.setCarrier_cases en a with ⟨-, hs⟩ | ⟨hm, hr, hs⟩
    · simpa [Arch.command, hs] using h
    · cases en
      · simpa [Arch.command, hs] using h.carrierOff hm hr
      · simpa [Arch.command, hs] using h.carrierOn hm hr
  | receiveByte =>
    rcases Arch.receiveByte_cases a with ⟨-, hs⟩ | ⟨hr, hm, hs⟩ | ⟨-, hm, hs⟩
    · simpa [Arch.command, hs] using h
    · simpa [Arch.command, hs] using h.clearSlot_armed hm hr
    · simpa [Arch.command, hs] using h.clearSlot hm
  | isSending => exact h
  | available => exact h
  | isReceiving => exact h
  | detectCarrier => exact h
  | reserved7 => exact h

end

/-- Settles O34, event by event: each clause of `Event.enabled` is what the event's lemma asks for. -/
theorem eventsKeepTheInvariants : Obligations.EventsKeepTheInvariants := by
  intro e a h hen
  cases e with
  | command i level => exact h.command i level
  | edge => exact h.edge hen
  | txTick => exact h.txTick (by simpa [Event.enabled, Arch.txActive] using hen)
  | rxTick level => exact h.rxTick level hen

/-! ### The ten flag combinations -/

/-- In each of the four situations the invariants leave only listed combinations (10_state.md section 7). -/
theorem Arch.Inv.flags_mem {a : Arch} (h : a.Inv) : a.flags ∈ reachableFlags := by
  cases hr : a.rxActive with
  | true =>
    obtain ⟨hm, hgate, harmed, hv, -⟩ := (Arch.inv_iff_of_receiving hr).mp h
    simp [Arch.flags, reachableFlags, hr, hm, hgate, harmed, hv]
  | false =>
    cases hm : a.mode with
    | idle =>
      obtain ⟨hgate, harmed, -⟩ := (Arch.inv_iff_of_listening hm hr).mp h
      cases hv : a.resValid with
      | false => simp [Arch.flags, reachableFlags, hr, hm, hgate, hv, harmed hv]
      | true => cases ha : a.armed <;> simp [Arch.flags, reachableFlags, hr, hm, hgate, hv, ha]
    | tx =>
      obtain ⟨-, harmed, -⟩ := (Arch.inv_iff_of_transmitting hm).mp h
      cases hv : a.resValid <;> cases hg : a.gate <;> simp [Arch.flags, reachableFlags, hr, hm, harmed, hv, hg]
    | cs =>
      obtain ⟨-, harmed, hgate, -⟩ := (Arch.inv_iff_of_carrierSensing hm).mp h
      cases hv : a.resValid <;> simp [Arch.flags, reachableFlags, hr, hm, harmed, hv, hgate]

/-- A reception of the byte 0: EDGE, nine samples of an idle line and the stop bit. -/
def receptionOfZero : List Event := Event.edge :: (List.replicate 9 (Event.rxTick true) ++ [Event.rxTick false])

/-- For each entry of `reachableFlags`, in its order, a run from reset to registers with those flags. -/
def runsToReachableFlags : List (List Event) :=
  [[],
    receptionOfZero ++ [Event.command (.setCarrier true) true, Event.command (.setCarrier false) true],
    receptionOfZero,
    [Event.edge],
    [Event.command (.send 0) true],
    [Event.command (.send 0) true, Event.txTick],
    receptionOfZero ++ [Event.command (.send 0) true],
    receptionOfZero ++ [Event.command (.send 0) true, Event.txTick],
    [Event.command (.setCarrier true) true],
    receptionOfZero ++ [Event.command (.setCarrier true) true]]

/-- The model runs each of the ten to its combination. -/
theorem flags_of_runsToReachableFlags :
    runsToReachableFlags.map (fun es => (Arch.run es Arch.reset).map Arch.flags) = reachableFlags.map some := by
  decide

/-- Settles O36: the upper bound from the invariants, the lower bound by the ten runs. -/
theorem tenFlagCombinations : Obligations.TenFlagCombinations := by
  refine ⟨fun a h => h.flags_mem, fun f hf => ?_⟩
  have hmem : some f ∈ runsToReachableFlags.map (fun es => (Arch.run es Arch.reset).map Arch.flags) := by
    rw [flags_of_runsToReachableFlags]
    exact List.mem_map_of_mem hf
  obtain ⟨es, -, hrun⟩ := List.mem_map.mp hmem
  obtain ⟨a, ha, hflags⟩ := Option.map_eq_some_iff.mp hrun
  exact ⟨es, a, ha, hflags⟩

/-! ### The phases of a clock cycle -/

/-- What the phases of a cycle keep: `State.Inv` but for the two clauses on `cph`, of which the resting phase is broken
by the tick that ends a session and restored by phase 4. -/
structure State.InvBeforePhase4 (s : State) : Prop where
  legal : s.params.wellFormed = true
  arch : s.toArch.Inv
  bpcRange : s.bpc.toNat < s.params.bitDiv
  settleRange : s.settle.toNat ≤ s.params.settleDiv
  settleInSession : 0 < s.settle.toNat → s.rxActive = true ∧ s.rxCount = 0 ∧ s.bpc.toNat = 0
  responseRange : s.rsp.toNat < 0x100 ∨ s.rsp = 0xFFFF

section
variable {s : State}

/-- A cycle starts from the invariants. -/
theorem State.Inv.beforePhase4 (h : s.Inv) : s.InvBeforePhase4 :=
  ⟨h.legal, h.arch, h.bpcRange, h.settleRange, h.settleInSession, h.responseRange⟩

/-- While the settling delay lasts, phase 1 only counts it down (R195). -/
theorem State.timerPhase_of_settling (level : Bool) (hr : s.rxActive = true) (hs : 0 < s.settle.toNat) :
    s.timerPhase level = { s with settle := s.settle - 1 } := by
  simp [State.timerPhase, hr, hs]

/-- Phase 1: a delay that runs is counted down; else a session's counter stays below `BIT_DIV`, or is cleared with a tick. -/
theorem State.InvBeforePhase4.timerPhase (h : s.InvBeforePhase4) (level : Bool) :
    (s.timerPhase level).InvBeforePhase4 ∧ (s.timerPhase level).params = s.params := by
  obtain ⟨hlegal, harch, hbpc, hsettle, hsession, hrsp⟩ := h
  by_cases hpos : 0 < s.settle.toNat
  · obtain ⟨hr, hcount, hzero⟩ := hsession hpos
    have hpred := counter_pred_toNat s.settle hpos
    rw [State.timerPhase_of_settling level hr hpos]
    exact ⟨⟨hlegal, harch, hbpc, hpred.trans_le ((Nat.sub_le _ _).trans hsettle), fun _ => ⟨hr, hcount, hzero⟩, hrsp⟩, rfl⟩
  · have hcleared : (0 : BitVec s.params.bpcWidth).toNat < s.params.bitDiv :=
      BitVec.toNat_zero.trans_lt (Nat.zero_lt_of_lt hbpc)
    rcases State.timerPhase_cases level s with
      ⟨-, hp, -⟩ | ⟨hm, -, ht⟩ | ⟨-, hr, -, -, ht⟩ | ⟨-, hne, ht⟩ | ⟨-, ht⟩
    · exact absurd hp hpos
    · rw [ht]
      exact ⟨⟨hlegal, harch.txTick hm, hcleared, hsettle, fun hp => absurd hp hpos, hrsp⟩, rfl⟩
    · rw [ht]
      exact ⟨⟨hlegal, harch.rxTick level hr, hcleared, hsettle, fun hp => absurd hp hpos, hrsp⟩, rfl⟩
    · have hlt : s.bpc.toNat + 1 < s.params.bitDiv := by omega
      rw [ht]
      exact ⟨⟨hlegal, harch, (bpc_succ_toNat s.bpc hlt).trans_lt hlt, hsettle, fun hp => absurd hp hpos, hrsp⟩, rfl⟩
    · rw [ht]
      exact ⟨⟨hlegal, harch, hbpc, hsettle, hsession, hrsp⟩, rfl⟩

/-- Phase 2: the delay that an effective EDGE loads belongs to the session it starts. -/
theorem State.InvBeforePhase4.edgePhase (h : s.InvBeforePhase4) (fall : Bool) :
    (s.edgePhase fall).InvBeforePhase4 ∧ (s.edgePhase fall).params = s.params := by
  rcases State.edgePhase_cases fall s with ⟨-, he⟩ | ⟨-, harmed, hv, he⟩
  · rw [he]
    exact ⟨h, rfl⟩
  · have hzero : (0 : BitVec s.params.bpcWidth).toNat = 0 := by simp
    rw [he]
    exact ⟨⟨h.legal, h.arch.startReceive harmed hv, hzero.trans_lt (Nat.zero_lt_of_lt h.bpcRange), (settle_load_toNat _).le,
      fun _ => ⟨rfl, rfl, hzero⟩, h.responseRange⟩, rfl⟩

/-- Phase 3 on the registers of the event level and on the response: the command that is presented, or nothing (R198). -/
theorem State.commandPhase_command {inp : Inputs} {u : State} (hu : s.commandPhase inp = .next u) :
    (u.toArch = s.toArch ∧ u.rsp = s.rsp) ∨
    ∃ i, u.toArch = (s.toArch.command i s.s2).1 ∧ u.rsp = (s.toArch.command i s.s2).2 := by
  rw [State.commandPhase_eq] at hu
  split at hu
  · rw [exec_eq] at hu
    cases hu
    exact .inr ⟨_, rfl, rfl⟩
  · cases hu
    exact .inl ⟨rfl, rfl⟩

/-- A bool response is 0 or 1 (R92). -/
theorem boolResponse_toNat_lt (v : Bool) : (boolResponse v).toNat < 0x100 := by
  cases v <;> decide

/-- The slot answers a byte or "no data" (R93). -/
theorem Arch.slotResponse_range (a : Arch) : a.slotResponse.toNat < 0x100 ∨ a.slotResponse = 0xFFFF := by
  unfold Arch.slotResponse
  split
  · left; exact (BitVec.toNat_setWidth_of_le (by decide)).trans_lt a.resData.isLt
  · exact .inr rfl

/-- Every response is a bool, a byte or "no data" (R92, R93). -/
theorem Arch.command_response_range (i : Instr) (level : Bool) (a : Arch) :
    (a.command i level).2.toNat < 0x100 ∨ (a.command i level).2 = 0xFFFF := by
  cases i with
  | send b =>
    rcases Arch.send_cases b a with ⟨-, hs⟩ | ⟨-, -, hs⟩ <;> simp [Arch.command, hs]
  | setCarrier en =>
    rcases Arch.setCarrier_cases en a with ⟨-, hs⟩ | ⟨-, -, hs⟩ <;> simp [Arch.command, hs]
  | receiveByte =>
    rcases Arch.receiveByte_cases a with ⟨-, hs⟩ | ⟨-, -, hs⟩ | ⟨-, -, hs⟩
    · exact .inr (by rw [Arch.command, hs])
    · simpa only [Arch.command, hs] using a.slotResponse_range
    · simpa only [Arch.command, hs] using a.slotResponse_range
  | isSending => exact .inl (boolResponse_toNat_lt _)
  | available => exact .inl (boolResponse_toNat_lt _)
  | isReceiving => exact .inl (boolResponse_toNat_lt _)
  | detectCarrier => exact .inl (boolResponse_toNat_lt _)
  | reserved7 => exact .inl (boolResponse_toNat_lt false)

/-- A command changes nothing in a receive session (41_receive.md R141). -/
theorem Arch.command_in_receive (i : Instr) (level : Bool) (a : Arch) (hr : a.rxActive = true) :
    (a.command i level).1 = a := by
  rcases Event.apply_in_receive (.command i level) a hr with ⟨_, h⟩ | h | h | h
  · cases h
  · cases h
  · cases h
  · exact h

/-- Phase 3: a command finds a settling delay only in a receive session, which it leaves alone. -/
theorem State.InvBeforePhase4.commandPhase (h : s.InvBeforePhase4) (inp : Inputs) :
    ∃ u, s.commandPhase inp = .next u ∧ u.InvBeforePhase4 ∧ u.params = s.params := by
  obtain ⟨u, hu, hparams, hbpc, hsettle, -⟩ := s.commandPhase_counters inp
  have hrange := h.bpcRange
  have hbitDiv := congrArg Params.bitDiv hparams
  have hsettleDiv := congrArg Params.settleDiv hparams
  have hbpc' : u.bpc.toNat < s.params.bitDiv := by omega
  have hregisters : u.toArch.Inv ∧ (s.rxActive = true → u.toArch = s.toArch) ∧ (u.rsp.toNat < 0x100 ∨ u.rsp = 0xFFFF) := by
    rcases State.commandPhase_command hu with ⟨ha, hrsp⟩ | ⟨i, ha, hrsp⟩
    · rw [ha, hrsp]
      exact ⟨h.arch, fun _ => rfl, h.responseRange⟩
    · rw [ha, hrsp]
      exact ⟨h.arch.command i s.s2, Arch.command_in_receive i s.s2 _, Arch.command_response_range i s.s2 _⟩
  obtain ⟨hinv, hreceiving, hrsp⟩ := hregisters
  refine ⟨u, hu, ⟨hparams ▸ h.legal, hinv, hbpc'.trans_eq hbitDiv.symm,
    (hsettle.trans_le h.settleRange).trans_eq hsettleDiv.symm,
    fun hpos => ?_, hrsp⟩, hparams⟩
  obtain ⟨hr, hcount, hzero⟩ := h.settleInSession (hsettle ▸ hpos)
  rw [hreceiving hr]
  exact ⟨hr, hcount, by omega⟩

/-- Phase 4 brings back the clauses on `cph`: its range by the remainder, and its rest because the gate is off. -/
theorem State.InvBeforePhase4.carrierSyncPhase (h : s.InvBeforePhase4) (g0 level : Bool) :
    (s.carrierSyncPhase g0 level).Inv := by
  obtain ⟨-, -, hdiv, -⟩ := (Params.wellFormed_iff _).mp h.legal
  have hcph := s.carrierSyncPhase_cph_toNat g0 level (by omega)
  refine ⟨h.legal, h.arch, h.bpcRange, h.settleRange, ?_, fun hgate => ?_, h.settleInSession, h.responseRange⟩
  · rw [hcph, State.carrierSyncPhase_params]
    split
    · exact Nat.mod_lt _ (by omega)
    · omega
  · have hoff : s.gate = false := hgate
    simp [hoff]

end

/-! ### Whole cycles -/

/-- The reset registers of R45 are those of a listening link. -/
theorem Arch.reset_inv : Arch.reset.Inv :=
  (Arch.inv_iff_of_listening rfl rfl).mpr ⟨rfl, fun _ => rfl, ⟨rfl, rfl⟩, ⟨rfl, rfl⟩, fun _ => rfl⟩

theorem State.resetAt_inv (p : Params) (hp : p.wellFormed = true) : (State.resetAt p).Inv := by
  obtain ⟨hbit, -, hdiv, -⟩ := (Params.wellFormed_iff p).mp hp
  exact ⟨hp, Arch.reset_inv, (State.resetAt_bpc p).trans_lt (Nat.zero_lt_of_lt hbit), by simp,
    (State.resetAt_cph p).trans_lt (Nat.zero_lt_of_lt hdiv), fun _ => State.resetAt_cph p, by simp, by simp⟩

theorem State.resetRegisters_inv (s : State) (hp : s.params.wellFormed = true) : s.resetRegisters.Inv :=
  have h := State.resetAt_inv s.params hp
  ⟨h.legal, h.arch, h.bpcRange, h.settleRange, h.cphRange, h.phaseAtRest, h.settleInSession, h.responseRange⟩

/-- Taking the port values touches no register. -/
theorem State.Inv.portsTaken {s : State} (h : s.Inv) : s.portsTaken.Inv := by
  obtain ⟨hlegal, harch, hbpc, hsettle, hcph, hrest, hsession, hrsp⟩ := h
  unfold State.portsTaken
  split <;> exact ⟨hlegal, harch, hbpc, hsettle, hcph, hrest, hsession, hrsp⟩

/-- A cycle keeps the invariants: under reset by R45, else phase by phase (R192). -/
theorem State.Inv.cycle {s t : State} (h : s.Inv) {inp : Inputs} (hc : cycle inp s = .next t) :
    t.Inv ∧ t.params = s.params := by
  cases hr : inp.rst with
  | true =>
    rw [cycle_of_reset inp s hr] at hc
    cases hc
    exact ⟨s.resetRegisters_inv h.legal, rfl⟩
  | false =>
    obtain ⟨htimer, hparams₁⟩ := h.beforePhase4.timerPhase s.s2
    obtain ⟨hedge, hparams₂⟩ := htimer.edgePhase s.fall
    obtain ⟨u, hu, hcommand, hparams₃⟩ := hedge.commandPhase inp
    rw [cycle_of_commandPhase inp s u hr hu] at hc
    cases hc
    exact ⟨hcommand.carrierSyncPhase s.gate inp.irRx, hparams₃.trans (hparams₂.trans hparams₁)⟩

/-- Settles O35: a step is a cycle with the values on the ports. -/
theorem stepKeepsTheInvariants : Obligations.StepKeepsTheInvariants := by
  intro s t h hstep
  obtain ⟨hinv, hparams⟩ := h.portsTaken.cycle hstep
  exact ⟨hinv, hparams.trans s.portsTaken_params⟩

/-- Settles O33, this implementation's configuration being a legal one. -/
theorem resetMeetsTheInvariants : Obligations.ResetMeetsTheInvariants :=
  ⟨State.resetAt_inv _ params_wellFormed, State.resetAt_inv⟩

/-- Settles O1: R45's values are the definition of the reset state, register by register. -/
theorem resetLeavesLinkListening : Obligations.ResetLeavesLinkListening :=
  ⟨rfl, rfl, rfl, rfl, rfl, rfl, rfl, rfl, rfl, rfl, rfl, rfl, rfl, rfl, rfl, rfl, rfl, rfl⟩

/-- Settles O42: what `exec_eq` writes of the registers and the response is the event level's command at `s2`. -/
theorem commandsReadNoSequencerState : Obligations.CommandsReadNoSequencerState := by
  intro i s r harch hs2
  refine ⟨_, _, exec_eq i s, exec_eq i r, ?_, ?_⟩
  · simp [harch, hs2]
  · simp [harch, hs2]

/-- Settles O56: `Nat.clog` is the least exponent whose power of 2 is large enough. -/
theorem counterWidthsAreThoseOfR34 : Obligations.CounterWidthsAreThoseOfR34 :=
  ⟨fun _ _ _ => ⟨(Nat.clog_le_iff_le_pow (by decide)).symm, (Nat.clog_le_iff_le_pow (by decide)).symm,
      (Nat.clog_le_iff_le_pow (by decide)).symm⟩,
    fun s => ⟨s.bpc.isLt, s.settle.isLt, s.cph.isLt⟩⟩

/-- Settles O57: each range is a case in which the law of its counter applies. -/
theorem countersCountWithoutWrapping : Obligations.CountersCountWithoutWrapping := by
  intro s h
  obtain ⟨-, -, hdiv, -⟩ := (Params.wellFormed_iff _).mp h.legal
  have hbpc := h.bpcRange
  exact ⟨fun hne => bpc_succ_toNat s.bpc (by omega), counter_pred_toNat s.settle,
    fun g0 l => s.carrierSyncPhase_cph_toNat g0 l (by omega), settle_load_toNat s.params⟩

end Sys2Proof.Machine

/-! PROOFS. A link outside all sessions: with a full slot nothing but the host's commands changes it (20_memory.md R74). -/

namespace Sys2Proof.Machine

section
variable {s : State}

/-- Outside all sessions no counter runs and no tick comes (R196). -/
theorem State.timerPhase_of_no_session (level : Bool) (hm : s.mode ≠ .tx) (hr : s.rxActive = false) :
    s.timerPhase level = s := by
  rcases State.timerPhase_cases level s with
    ⟨hr', -⟩ | ⟨hm', -⟩ | ⟨-, hr', -⟩ | ⟨hsession, -⟩ | ⟨-, ht⟩
  · simp [hr] at hr'
  · exact absurd hm' hm
  · simp [hr] at hr'
  · simp [Arch.sessionActive, Arch.txActive, hm, hr] at hsession
  · exact ht

/-- An EDGE finds a full slot: the trigger is a no-op (R131). -/
theorem State.edgePhase_of_full_slot (fall : Bool) (hv : s.resValid = true) : s.edgePhase fall = s := by
  rcases State.edgePhase_cases fall s with ⟨-, he⟩ | ⟨-, -, hempty, -⟩
  · exact he
  · simp [hv] at hempty

/-- Without a command phase 3 only lowers `rsp_valid` (R198). -/
theorem State.commandPhase_of_no_command {inp : Inputs} (hc : inp.cmdValid = false) :
    s.commandPhase inp = .next { s with rspValid := false } := by
  simp [State.commandPhase_eq, hc]

end

/-- Settles O45: phases 1 and 2 change nothing, and phases 3 and 4 change no architectural register. -/
theorem holdingLinkIsStable : Obligations.HoldingLinkIsStable := by
  intro inp s hm hr hv hrst hcmd
  have htimer : s.timerPhase s.s2 = s := State.timerPhase_of_no_session s.s2 (by simp [hm]) hr
  have hedge : s.edgePhase s.fall = s := State.edgePhase_of_full_slot s.fall hv
  have hcommand : ((s.timerPhase s.s2).edgePhase s.fall).commandPhase inp = .next { s with rspValid := false } := by
    rw [htimer, hedge, State.commandPhase_of_no_command hcmd]
  exact ⟨_, cycle_of_commandPhase inp s _ hrst hcommand, State.carrierSyncPhase_toArch ..⟩

end Sys2Proof.Machine

/-! PROOFS. The encodings of 30_encoding.md: command words and what they decode to, parity and the wire frame, the words
a receiver accepts, and the response words. -/

namespace Sys2Proof

/-! ### Command words (R88 to R90, R95) -/

/-- The table of R89 has eight rows. -/
theorem Opcode.eq_of_eight (op : Opcode) :
    op = 0 ∨ op = 1 ∨ op = 2 ∨ op = 3 ∨ op = 4 ∨ op = 5 ∨ op = 6 ∨ op = 7 := by
  revert op; decide

/-- A command word is its two fields. -/
theorem cmdWord_op_arg (w : CmdWord) : cmdWord w.op w.arg = w :=
  BitVec.extractLsb'_append_extractLsb'

/-- A mask on a command word is a mask on each field. -/
theorem cmdWord_and (op m : Opcode) (arg n : Byte) : cmdWord op arg &&& cmdWord m n = cmdWord (op &&& m) (arg &&& n) :=
  BitVec.and_append

theorem CmdWord.arg_getLsbD_zero (w : CmdWord) : w.arg.getLsbD 0 = w.getLsbD 0 := by
  simp [CmdWord.arg]

theorem Byte.and_one (b : Byte) : b &&& 1 = if b.getLsbD 0 then 1 else 0 := by
  rw [show b &&& 1 = (BitVec.ofBool (b.getLsbD 0)).setWidth 8 from BitVec.and_one_eq_setWidth_ofBool_getLsbD]
  cases b.getLsbD 0 <;> rfl

/-! What `clearIgnored` leaves of a word, by the three ways R90 reads `arg`. -/

/-- SEND reads all of `arg`. -/
theorem clearIgnored_of_send {w : CmdWord} (h : w.op = 0) : clearIgnored w = w := by
  simp [clearIgnored, h]

/-- SET_CARRIER reads `arg[0]`. -/
theorem clearIgnored_of_setCarrier {w : CmdWord} (h : w.op = 5) :
    clearIgnored w = cmdWord 5 (if w.getLsbD 0 then 1 else 0) := by
  have hmask : clearIgnored w = cmdWord w.op w.arg &&& cmdWord 7 1 := by
    rw [cmdWord_op_arg]
    simp [clearIgnored, h, cmdWord]
  rw [hmask, cmdWord_and, h, Byte.and_one, CmdWord.arg_getLsbD_zero]
  rfl

/-- Every other opcode reads nothing of `arg`. -/
theorem clearIgnored_of_no_argument {w : CmdWord} (h0 : w.op ≠ 0) (h5 : w.op ≠ 5) :
    clearIgnored w = cmdWord w.op 0 := by
  have hmask : clearIgnored w = cmdWord w.op w.arg &&& cmdWord 7 0 := by
    rw [cmdWord_op_arg, clearIgnored]
    split
    · next h => exact absurd (BitVec.eq_of_toNat_eq h) h0
    · next h => exact absurd (BitVec.eq_of_toNat_eq h) h5
    · rfl
  rw [hmask, cmdWord_and, show w.op &&& 7 = w.op from BitVec.and_allOnes, show w.arg &&& 0 = 0 from BitVec.and_zero]

/-- The fields of an encoding (R88) are what a decoder reads: the opcode, and for SEND and SET_CARRIER the operand. -/
theorem decode_encode (i : Instr) : decode (encode i) = i := by
  simp only [decode, encode, Laws.cmdWord_op, Laws.cmdWord_arg]
  cases i with
  | setCarrier en => cases en <;> rfl
  | _ => rfl

/-- Decoding keeps the opcode (R96). -/
theorem decode_opcode (w : CmdWord) : (decode w).opcode = w.op := by
  rcases w.op.eq_of_eight with h | h | h | h | h | h | h | h <;> simp [decode, h, Instr.opcode]

theorem decode_of_send {w : CmdWord} (h : w.op = 0) : decode w = .send w.arg := by
  simp [decode, h]

theorem decode_of_setCarrier {w : CmdWord} (h : w.op = 5) : decode w = .setCarrier (w.getLsbD 0) := by
  rw [← CmdWord.arg_getLsbD_zero]
  simp [decode, h]

/-- A command whose opcode is not that of SEND or SET_CARRIER has no operand to encode. -/
theorem Instr.argument_of_no_argument {i : Instr} (h0 : i.opcode ≠ 0) (h5 : i.opcode ≠ 5) : i.argument = 0 := by
  cases i with
  | send b => exact absurd rfl h0
  | setCarrier en => exact absurd rfl h5
  | _ => rfl

/-- Encoding the command of a word gives back the bits that R90 reads. -/
theorem encode_decode (w : CmdWord) : encode (decode w) = clearIgnored w := by
  by_cases h0 : w.op = 0
  · calc encode (decode w) = cmdWord 0 w.arg := by rw [decode_of_send h0]; rfl
      _ = clearIgnored w := by rw [← h0, cmdWord_op_arg, clearIgnored_of_send h0]
  by_cases h5 : w.op = 5
  · rw [decode_of_setCarrier h5, clearIgnored_of_setCarrier h5]; rfl
  · rw [encode, decode_opcode, clearIgnored_of_no_argument h0 h5,
      Instr.argument_of_no_argument (by rwa [decode_opcode]) (by rwa [decode_opcode])]

/-- The ignored bits are exactly what decoding forgets (R95). -/
theorem decode_eq_iff_clearIgnored_eq (v w : CmdWord) : decode v = decode w ↔ clearIgnored v = clearIgnored w := by
  have hinj : Function.Injective encode := Function.LeftInverse.injective decode_encode
  rw [← encode_decode v, ← encode_decode w, hinj.eq_iff]

/-- Settles O14: a round trip from either side. -/
theorem decodeEncodeAgree : Obligations.DecodeEncodeAgree :=
  ⟨decode_encode, encode_decode⟩

/-- Settles O16: words that agree in the bits R90 reads are one command, and `exec` sees nothing else of them. -/
theorem ignoredBitsChangeNothing : Obligations.IgnoredBitsChangeNothing := by
  intro w s
  have hexec {v : CmdWord} (h : clearIgnored v = clearIgnored w) :
      Machine.exec (decode v) s = Machine.exec (decode w) s := by
    rw [(decode_eq_iff_clearIgnored_eq v w).mpr h]
  constructor
  · intro (h0 : w.op ≠ 0) (h5 : w.op ≠ 5) v (hop : v.op = w.op)
    exact hexec (by
      rw [clearIgnored_of_no_argument h0 h5, clearIgnored_of_no_argument (hop ▸ h0) (hop ▸ h5), hop])
  · intro (hw : w.op = 5) v (hv : v.op = 5) hbit
    exact hexec (by rw [clearIgnored_of_setCarrier hv, clearIgnored_of_setCarrier hw, hbit])

/-- Settles O15: ten closed words, which the decoder is run on. -/
theorem specWordsDecode : Obligations.SpecWordsDecode := by
  unfold Obligations.SpecWordsDecode
  decide

end Sys2Proof

namespace Sys2Proof.Machine

/-! ### Parity and the wire frame (R82, R83) -/

theorem onesBelow_succ {w : Nat} (n : Nat) (v : BitVec w) :
    onesBelow (n + 1) v = onesBelow n v + (v.getLsbD n).toNat := by
  cases h : v.getLsbD n <;> simp [onesBelow, List.range_succ, List.filter_append, h]

/-- One more bit flips the parity of the count exactly when it is set. -/
theorem onesBelow_succ_odd {w : Nat} (n : Nat) (v : BitVec w) :
    decide (onesBelow (n + 1) v % 2 = 1) = (decide (onesBelow n v % 2 = 1) ^^ v.getLsbD n) := by
  rw [onesBelow_succ]
  cases v.getLsbD n <;> rcases Nat.mod_two_eq_zero_or_one (onesBelow n v) with h | h <;> simp [h, Nat.add_mod]

/-- The exclusive or of the bits is the parity of their count (R83). -/
theorem parity8_eq_decide_odd (b : Byte) : parity8 b = decide (onesBelow 8 b % 2 = 1) := by
  have hnone : decide (onesBelow 0 b % 2 = 1) = false := rfl
  simp only [onesBelow_succ_odd, hnone, parity8, Bool.false_xor]

/-- Settles O3: the formula is the definition's, the count comes bit by bit. -/
theorem parityIsOneIffOddlyManyBits : Obligations.ParityIsOneIffOddlyManyBits := by
  refine ⟨fun b => ⟨rfl, ?_⟩, by decide, by decide, by decide, by decide, by decide⟩
  rw [parity8_eq_decide_odd, decide_eq_true_iff]

/-! The bits of a frame that a receiver samples (R86): eight payload bits, the parity and the stop bit. -/

theorem frame_payload (b : Byte) {k : Nat} (hk : k < 8) : (frame b).getLsbD (k + 1) = b.getLsbD k := by
  simp only [frame, BitVec.getLsbD_append]
  simp [hk]

theorem frame_parity (b : Byte) : (frame b).getLsbD 9 = parity8 b := by
  simp only [frame, BitVec.getLsbD_append]
  simp

theorem frame_stop (b : Byte) : (frame b).getLsbD 10 = true := by
  simp only [frame, BitVec.getLsbD_append]
  simp

/-- Appending puts the left word above the right one. -/
theorem append_toNat {m n : Nat} (x : BitVec m) (y : BitVec n) : (x ++ y).toNat = x.toNat * 2 ^ n + y.toNat := by
  rw [BitVec.toNat_append, ← Nat.shiftLeft_add_eq_or_of_lt y.isLt, Nat.shiftLeft_eq]

/-- The number a frame is: the fields of R82's formula at their places. -/
theorem frame_toNat (b : Byte) : (frame b).toNat = 1 + 2 * b.toNat + 512 * (parity8 b).toNat + 1024 := by
  simp only [frame, append_toNat, BitVec.toNat_ofBool, BitVec.toNat_ofNat]
  omega

/-- The formula of R82: the fields are shifted to their places and put together. -/
theorem frame_eq_or (b : Byte) : frame b =
    1#12 ||| (b.setWidth 12 <<< 1) ||| ((BitVec.ofBool (parity8 b)).setWidth 12 <<< 9) ||| 0x400#12 := by
  calc frame b
    _ = (frame b).setWidth 12 := (BitVec.setWidth_eq _).symm
    _ = ((2#12 ||| (BitVec.ofBool (parity8 b)).setWidth 12) <<< 8 ||| b.setWidth 12) <<< 1 ||| 1#12 := by
      simp only [frame, BitVec.setWidth_append_eq_shiftLeft_setWidth_or]
      simp
    _ = (0x400#12 ||| (BitVec.ofBool (parity8 b)).setWidth 12 <<< 9) ||| b.setWidth 12 <<< 1 ||| 1#12 := by
      simp [BitVec.shiftLeft_or_distrib, ← BitVec.shiftLeft_add]
    _ = _ := by ac_rfl

/-- Every frame has its start and stop bit, so it is at least 0x401; only 0xFF could pass 0x7FD, and its parity is 0. -/
theorem frame_toNat_bounds (b : Byte) : 0x401 ≤ (frame b).toNat ∧ (frame b).toNat ≤ 0x7FD := by
  rw [frame_toNat]
  have hb := b.isLt
  have hp := (parity8 b).toNat_le
  by_cases hff : b = 0xFF
  · subst hff
    decide
  · have : b.toNat ≠ 0xFF := fun h => hff (BitVec.eq_of_toNat_eq h)
    omega

/-- Settles O2: the formula, the guard bit and the bounds for every byte, and the rule's three values. -/
theorem frameIsTheTwelveBitsOfR82 : Obligations.FrameIsTheTwelveBitsOfR82 :=
  ⟨fun b => ⟨frame_eq_or b, frame_guard b, frame_toNat_bounds b⟩, by decide, by decide, by decide⟩

/-! ### The words a receiver accepts (R86, R100) -/

/-- A received word is its payload, its parity bit and its stop bit (R86). -/
theorem rxWord_eq_iff (v w : RxWord) :
    v = w ↔ candidate v = candidate w ∧ v.getLsbD 8 = w.getLsbD 8 ∧ v.getLsbD 9 = w.getLsbD 9 := by
  refine ⟨fun h => by simp [h], fun ⟨hcand, hparity, hstop⟩ => BitVec.eq_of_getLsbD_eq fun k hk => ?_⟩
  have hcases : k < 8 ∨ k = 8 ∨ k = 9 := by omega
  rcases hcases with hk | rfl | rfl
  · simpa [candidate, hk] using congrArg (·.getLsbD k) hcand
  · exact hparity
  · exact hstop

/-- The word a receiver accumulates from `frame b` has `b` for payload, its parity and the stop bit (R86). -/
theorem candidate_frame (b : Byte) : candidate ((frame b).extractLsb' 1 10) = b :=
  BitVec.eq_of_getLsbD_eq fun k hk => by
    rw [← frame_payload b hk, candidate, BitVec.getLsbD_extractLsb', BitVec.getLsbD_extractLsb']
    simp [show k < 10 by omega, hk, Nat.add_comm 1 k]

theorem checkFrame_eq_commit_iff (w : RxWord) (b : Byte) :
    checkFrame w = .commit b ↔ candidate w = b ∧ w.getLsbD 8 = parity8 b ∧ w.getLsbD 9 = true := by
  rcases checkFrame_cases w with ⟨hparity, hstop, h⟩ | ⟨hparity, h⟩ | ⟨-, hstop, h⟩
  · rw [h, FrameCheck.commit.injEq]
    exact ⟨fun hb => ⟨hb, hb ▸ hparity.symm, hstop⟩, fun hb => hb.1⟩
  · rw [h]
    exact ⟨nofun, fun ⟨hb, hp, _⟩ => absurd (hb ▸ hp.symm) hparity⟩
  · rw [h]
    exact ⟨nofun, fun ⟨_, _, hs⟩ => absurd (hstop.symm.trans hs) (by decide)⟩

/-- Settles O28: a commit fixes the three fields of the word, and those are the fields of a frame. -/
theorem acceptedWordsAreTheFrames : Obligations.AcceptedWordsAreTheFrames := by
  constructor
  · intro w
    simp only [checkFrame_eq_commit_iff]
    exact ⟨fun ⟨_, hb, hparity, hstop⟩ => ⟨(congrArg parity8 hb).trans hparity.symm, hstop⟩,
      fun ⟨hparity, hstop⟩ => ⟨candidate w, rfl, hparity.symm, hstop⟩⟩
  · intro w b
    have hparity : ((frame b).extractLsb' 1 10).getLsbD 8 = parity8 b := by
      rw [BitVec.getLsbD_extractLsb', ← frame_parity]; rfl
    have hstop : ((frame b).extractLsb' 1 10).getLsbD 9 = true := by
      rw [BitVec.getLsbD_extractLsb', ← frame_stop b]; rfl
    rw [checkFrame_eq_commit_iff, rxWord_eq_iff, candidate_frame, hparity, hstop]

/-! ### Responses (R92 to R94) -/

/-- Every command but RECEIVE_BYTE answers a bool (R92, R94). -/
theorem Arch.command_response_bool {i : Instr} (hi : i ≠ .receiveByte) (level : Bool) (a : Arch) :
    (a.command i level).2 = 0x0001 ∨ (a.command i level).2 = 0x0000 := by
  have hbool (v : Bool) : boolResponse v = 0x0001 ∨ boolResponse v = 0x0000 := by cases v <;> simp [boolResponse]
  cases i with
  | send b =>
    rcases Arch.send_cases b a with ⟨-, hs⟩ | ⟨-, -, hs⟩ <;> simp [Arch.command, hs]
  | setCarrier en =>
    rcases Arch.setCarrier_cases en a with ⟨-, hs⟩ | ⟨-, -, hs⟩ <;> simp [Arch.command, hs]
  | receiveByte => exact absurd rfl hi
  | isSending => exact hbool _
  | available => exact hbool _
  | isReceiving => exact hbool _
  | detectCarrier => exact hbool _
  | reserved7 => exact .inr rfl

/-- RECEIVE_BYTE answers "no data" or the byte of the slot (R93). -/
theorem Arch.receiveByte_response (a : Arch) :
    a.receiveByte.2 = 0xFFFF ∨ ∃ d : Byte, a.receiveByte.2 = d.setWidth 16 := by
  have hslot : a.slotResponse = 0xFFFF ∨ ∃ d : Byte, a.slotResponse = d.setWidth 16 := by
    unfold Arch.slotResponse
    split
    · exact .inr ⟨a.resData, rfl⟩
    · exact .inl rfl
  rcases Arch.receiveByte_cases a with ⟨-, hr⟩ | ⟨-, -, hr⟩ | ⟨-, -, hr⟩
  · exact .inl (by rw [hr])
  · simpa only [hr] using hslot
  · simpa only [hr] using hslot

/-- Settles O13: `exec_eq` gives the next state of every command, with the response of the event level. -/
theorem responsesAreBoolsBytesOrNoData : Obligations.ResponsesAreBoolsBytesOrNoData := by
  intro i s
  refine ⟨_, exec_eq i s, rfl, fun hi => Arch.command_response_bool hi s.s2 s.toArch, fun hi => ?_⟩
  subst hi
  exact s.toArch.receiveByte_response

end Sys2Proof.Machine

/-! PROOFS. The transmitter: SEND, TX_TICK and IS_SENDING, what a session emits, and what it does not depend on: the
host's commands and the input line (40_transmit.md). -/

namespace Sys2Proof

theorem decode_of_isSending {w : CmdWord} (h : w.op = 1) : decode w = .isSending := by
  simp [decode, h]

end Sys2Proof

namespace Sys2Proof.Machine

/-! ### The operations of the transmitter (R111, R113, R114) -/

/-- The twelfth tick brings the count to 12, and no other does. -/
theorem bitCount_succ_eq_twelve_iff (c : BitCount) : c + 1 = 12 ↔ c = 11 := by
  bv_omega

section
variable {a : Arch}

theorem Event.txTick_enabled_iff : Event.txTick.enabled a = true ↔ a.mode = .tx :=
  decide_eq_true_iff

/-- Before the twelfth of a session TX_TICK emits, shifts and counts. -/
theorem Arch.txTick_of_not_twelfth (hc : a.txCount ≠ 11) : a.txTick = a.emitBit := by
  rcases Arch.txTick_cases a with ⟨-, ht⟩ | ⟨hc', -⟩
  · exact ht
  · exact absurd hc' hc

/-- The twelfth of a session also completes it. -/
theorem Arch.txTick_of_twelfth (hc : a.txCount = 11) : a.txTick = a.emitBit.endTransmit := by
  rcases Arch.txTick_cases a with ⟨hc', -⟩ | ⟨-, ht⟩
  · exact absurd hc hc'
  · exact ht

/-- Every TX_TICK, the twelfth too, emits bit 0. -/
@[simp] theorem Arch.txTick_gate (a : Arch) : a.txTick.gate = a.txShift.getLsbD 0 := by
  rcases Arch.txTick_cases a with ⟨-, ht⟩ | ⟨-, ht⟩ <;> simp [ht]

/-- Every TX_TICK, the twelfth too, shifts by one. -/
@[simp] theorem Arch.txTick_txShift (a : Arch) : a.txTick.txShift = a.txShift >>> 1 := by
  rcases Arch.txTick_cases a with ⟨-, ht⟩ | ⟨-, ht⟩ <;> simp [ht]

/-- Turned away, SEND changes nothing and answers false. -/
theorem Arch.send_of_busy (b : Byte) (h : a.mode ≠ .idle ∨ a.rxActive = true) : a.send b = (a, 0x0000) := by
  rcases Arch.send_cases b a with ⟨-, hs⟩ | ⟨hm, hr, -⟩
  · exact hs
  · simp [hm, hr] at h

/-- On a free link SEND loads the frame and answers true. -/
theorem Arch.send_of_free (b : Byte) (hm : a.mode = .idle) (hr : a.rxActive = false) :
    a.send b = (a.loadFrame b, 0x0001) := by
  rcases Arch.send_cases b a with ⟨hbusy, -⟩ | ⟨-, -, hs⟩
  · simp [Arch.sendBusy, hm, hr] at hbusy
  · exact hs

end

/-! ### The phases of a clock cycle in a transmit session (R196, R197) -/

section
variable {s : State} (level : Bool)

/-- TX_TICK comes in the last cycle of a bit period, which clears the counter. -/
theorem State.timerPhase_of_txTick (hm : s.mode = .tx) (hr : s.rxActive = false)
    (hlast : s.bpc.toNat = s.params.bitDiv - 1) :
    s.timerPhase level = { s with toArch := s.toArch.txTick, bpc := 0 } := by
  simp [State.timerPhase, State.tick, Arch.sessionActive, Arch.txActive, hm, hr, hlast]

/-- In the other cycles of a bit period the timer only counts. -/
theorem State.timerPhase_of_tx_counting (hm : s.mode = .tx) (hr : s.rxActive = false)
    (hlast : s.bpc.toNat ≠ s.params.bitDiv - 1) : s.timerPhase level = { s with bpc := s.bpc + 1 } := by
  simp [State.timerPhase, Arch.sessionActive, Arch.txActive, hm, hr, hlast]

/-- But for the twelfth tick, phase 1 of a transmit session leaves the trigger as it is. -/
theorem State.timerPhase_armed_in_transmit (hm : s.mode = .tx) (hr : s.rxActive = false)
    (hlast : s.txCount ≠ 11 ∨ s.bpc.toNat ≠ s.params.bitDiv - 1) : (s.timerPhase level).armed = s.armed := by
  by_cases htick : s.bpc.toNat = s.params.bitDiv - 1
  · rw [State.timerPhase_of_txTick level hm hr htick]
    simp [Arch.txTick_of_not_twelfth (hlast.resolve_right (absurd htick))]
  · rw [State.timerPhase_of_tx_counting level hm hr htick]

/-- A disarmed trigger sees no edge (R130). -/
theorem State.edgePhase_of_disarmed (fall : Bool) (ha : s.armed = false) : s.edgePhase fall = s := by
  rcases State.edgePhase_cases fall s with ⟨-, he⟩ | ⟨-, harmed, -⟩
  · exact he
  · simp [ha] at harmed

end

/-! ### The commands and the tick, register by register -/

/-- Settles O23: the registers after the tick meet the invariants in IDLE, so the bit emitted, the guard bit, is 0 and the
shift register is empty. -/
theorem twelfthTxTickEndsSession : Obligations.TwelfthTxTickEndsSession := by
  intro a h hm hc
  have hinv : a.emitBit.endTransmit.Inv := h.emitBit_endTransmit hm hc
  have hgate : a.txShift.getLsbD 0 = false := hinv.gateInMode.2 rfl
  have hshift : a.txShift >>> 1 = 0 := (hinv.transmitterClear (by simp)).1
  rw [Arch.txTick_of_twelfth hc, Arch.endTransmit, Arch.emitBit, hgate, hshift]

/-- Settles O4: `exec_eq` with the two outcomes of SEND; only an accepted one clears `bpc` (R198). -/
theorem sendLoadsFrameOrIsBusy : Obligations.SendLoadsFrameOrIsBusy := by
  intro b s
  refine ⟨?_, fun h => ?_, fun hm hr => ?_, Event.txTick_enabled_iff⟩
  · intro w (hop : w.op = 0) (harg : w.arg = b)
    rw [decode_of_send hop, harg]
  · have hbusy : s.sendBusy = true := by simpa [Arch.sendBusy] using h
    simp [exec_eq, Arch.command, Arch.send_of_busy b h, hbusy, State.answer]
  · have hfree : s.sendBusy = false := by simp [Arch.sendBusy, hm, hr]
    simp [exec_eq, Arch.command, Arch.send_of_free b hm hr, hfree, State.answer, Arch.loadFrame]

/-- Settles O5: the registers stay, and the answer is the flag `txActive`. -/
theorem isSendingAnswersTransmitMode : Obligations.IsSendingAnswersTransmitMode := by
  intro s
  refine ⟨fun w hop => decode_of_isSending hop, ?_⟩
  simp [exec_eq, Arch.command, Arch.isSending, Arch.txActive, boolResponse, State.answer]

/-- Settles O22: TX_TICK's two cases, and the timer's two cases in a transmit session. -/
theorem txTickEmitsOneBit : Obligations.TxTickEmitsOneBit := by
  refine ⟨fun a => ⟨Event.txTick_enabled_iff, fun hc => ?_, fun hc => ?_⟩, fun level s hm hr => ⟨?_, ?_⟩⟩
  · exact Arch.txTick_of_not_twelfth (mt (bitCount_succ_eq_twelve_iff _).mpr hc)
  · exact Arch.txTick_of_twelfth ((bitCount_succ_eq_twelve_iff _).mp hc)
  · exact State.timerPhase_of_txTick level hm hr
  · exact State.timerPhase_of_tx_counting level hm hr

/-! ### The whole session (R118) -/

/-- Ticks put the shift register's bits on `gate` from bit 0 up. -/
theorem gatesOf_eq_bits (n : Nat) (a : Arch) : gatesOf n a = (List.range n).map a.txShift.getLsbD := by
  induction n generalizing a with
  | zero => rfl
  | succ n ih =>
    have hbit (k : Nat) : a.txTick.txShift.getLsbD k = a.txShift.getLsbD (k + 1) := by
      simp [Nat.add_comm]
    rw [gatesOf, ih, List.range_succ_eq_map, List.map_cons, List.map_map, Arch.txTick_gate]
    exact congrArg _ (List.map_congr_left fun k _ => hbit k)

/-- Up to the eleventh tick a session goes on: the shift and the count keep in step. -/
theorem Arch.run_txTicks {a : Arch} (k : Nat) (hm : a.mode = .tx) (hk : a.txCount.toNat + k ≤ 11) :
    ∃ x, Arch.run (List.replicate k .txTick) a = some x ∧
      x.mode = .tx ∧ x.txShift = a.txShift >>> k ∧ x.txCount.toNat = a.txCount.toNat + k := by
  induction k generalizing a with
  | zero => exact ⟨a, rfl, hm, by simp, rfl⟩
  | succ k ih =>
    have hne : a.txCount ≠ 11 := by bv_omega
    have hsucc : a.emitBit.txCount.toNat = a.txCount.toNat + 1 := bitCount_succ_toNat a.txCount (by bv_omega)
    obtain ⟨x, hrun, hmode, hshift, hcount⟩ := ih (a := a.emitBit) hm (by omega)
    have hfirst : Arch.run (List.replicate (k + 1) .txTick) a = Arch.run (List.replicate k .txTick) a.emitBit := by
      rw [List.replicate_succ, Arch.run, if_pos (Event.txTick_enabled_iff.mpr hm), Event.apply,
        Arch.txTick_of_not_twelfth hne]
    refine ⟨x, hfirst.trans hrun, hmode, ?_, by omega⟩
    rw [hshift, Arch.emitBit_txShift, ← BitVec.shiftRight_add, Nat.add_comm]

/-- Settles O30: SEND loads the frame with the count at 0, and the twelfth tick comes after eleven. -/
theorem sessionEmitsTheFrame : Obligations.SessionEmitsTheFrame := by
  intro a b hm hr
  rw [Arch.send_of_free b hm hr]
  have hticks (k : Nat) (hk : k < 12) := Arch.run_txTicks (a := a.loadFrame b) k rfl (by simp; omega)
  refine ⟨gatesOf_eq_bits 12 _, fun k hk => ?_, ?_⟩
  · simpa using hticks k hk
  · obtain ⟨x, hrun, hmode, -, hcount⟩ := hticks 11 (by decide)
    have htwelfth : x.txCount = 11 := BitVec.eq_of_toNat_eq (by simpa using hcount)
    refine ⟨x.emitBit.endTransmit, ?_, rfl, rfl⟩
    rw [List.replicate_succ', Arch.run_append _ _ _ _ hrun, Arch.run, if_pos (Event.txTick_enabled_iff.mpr hmode),
      Event.apply, Arch.txTick_of_twelfth htwelfth, Arch.run]

/-! ### No command disturbs a session (R120, R141) -/

/-- In a transmit session a command changes at most the result slot: SEND and SET_CARRIER are busy, and RECEIVE_BYTE
does not arm the trigger outside IDLE (R139). -/
theorem Arch.command_in_transmit (i : Instr) (level : Bool) (a : Arch) (hm : a.mode = .tx) :
    (a.command i level).1 = a ∨ (a.command i level).1 = a.clearSlot := by
  cases i with
  | send b => exact .inl (by rw [Arch.command, Arch.send_of_busy b (.inl (by simp [hm]))])
  | setCarrier en =>
    rcases Arch.setCarrier_cases en a with ⟨-, hs⟩ | ⟨hm', -⟩
    · exact .inl (by rw [Arch.command, hs])
    · exact absurd hm hm'
  | receiveByte =>
    rcases Arch.receiveByte_cases a with ⟨-, hs⟩ | ⟨-, hidle, -⟩ | ⟨-, -, hs⟩
    · exact .inl (by rw [Arch.command, hs])
    · simp [hm] at hidle
    · exact .inr (by rw [Arch.command, hs])
  | isSending => exact .inl rfl
  | available => exact .inl rfl
  | isReceiving => exact .inl rfl
  | detectCarrier => exact .inl rfl
  | reserved7 => exact .inl rfl

/-- Settles O27: one lemma for each kind of session. -/
theorem sessionsIgnoreCommands : Obligations.SessionsIgnoreCommands := by
  intro i level a
  refine ⟨Arch.command_in_receive i level a, fun hm => ?_⟩
  rcases Arch.command_in_transmit i level a hm with h | h
  · exact ⟨a.resValid, a.resData, h⟩
  · exact ⟨false, 0, h⟩

/-! ### The transmitter and the input line (R119) -/

/-- The same block with another past of the input line: the three registers of the synchroniser (R193). -/
def State.withLine (s : State) (x y z : Bool) : State := { s with s1 := x, s2 := y, prev := z }

/-- Only DETECT_CARRIER reads the line (R163). -/
theorem Arch.command_level_irrelevant {i : Instr} (hi : i ≠ .detectCarrier) (l m : Bool) (a : Arch) :
    a.command i l = a.command i m := by
  cases i with
  | detectCarrier => exact absurd rfl hi
  | _ => rfl

section
variable (x y z : Bool) (s : State)

/-- Phase 1 of a transmit session neither reads nor writes the synchroniser. -/
theorem State.timerPhase_withLine (level : Bool) (hm : s.mode = .tx) (hr : s.rxActive = false) :
    (s.withLine x y z).timerPhase level = (s.timerPhase s.s2).withLine x y z := by
  by_cases hlast : s.bpc.toNat = s.params.bitDiv - 1
  · rw [State.timerPhase_of_txTick s.s2 hm hr hlast]
    exact State.timerPhase_of_txTick (s := s.withLine x y z) level hm hr hlast
  · rw [State.timerPhase_of_tx_counting s.s2 hm hr hlast]
    exact State.timerPhase_of_tx_counting (s := s.withLine x y z) level hm hr hlast

/-- The line reaches nothing that a command writes but the answer of DETECT_CARRIER. -/
theorem exec_withLine (i : Instr) : ∃ t r, exec i s = .next t ∧
    exec i (s.withLine x y z) = .next { t.withLine x y z with rsp := r } ∧ (i ≠ .detectCarrier → r = t.rsp) := by
  refine ⟨_, (s.toArch.command i y).2, exec_eq i s, ?_, fun hi => ?_⟩
  · cases i <;> rfl
  · exact congrArg Prod.snd (Arch.command_level_irrelevant hi y s.s2 s.toArch)

/-- Phase 3 likewise, and without a command it keeps `rsp` (R198). -/
theorem State.commandPhase_withLine (inp : Inputs) : ∃ t r, s.commandPhase inp = .next t ∧
    (s.withLine x y z).commandPhase inp = .next { t.withLine x y z with rsp := r } ∧
    (decode inp.word ≠ .detectCarrier → r = t.rsp) := by
  cases hc : inp.cmdValid with
  | true => simpa [State.commandPhase_eq, hc] using exec_withLine x y z s (decode inp.word)
  | false =>
    exact ⟨_, s.rsp, State.commandPhase_of_no_command hc, State.commandPhase_of_no_command hc, fun _ => rfl⟩

end

/-- Settles O43: phase 1 does not read the line, phase 2 is disarmed, phase 3 reads it for DETECT_CARRIER alone, and phase
4 keeps it in the synchroniser. -/
theorem transmitterIgnoresTheLine : Obligations.TransmitterIgnoresTheLine := by
  intro inp s x y z l hm hr ha hlast hrst
  have hdisarmed : (s.timerPhase s.s2).armed = false := (State.timerPhase_armed_in_transmit s.s2 hm hr hlast).trans ha
  have hdisarmed' : ((s.timerPhase s.s2).withLine x y z).armed = false := hdisarmed
  obtain ⟨t, r, ht, hu, hrsp⟩ := State.commandPhase_withLine x y z (s.timerPhase s.s2) inp
  have hcycle := cycle_of_commandPhase inp s t hrst (by rw [State.edgePhase_of_disarmed _ hdisarmed, ht])
  have hcycle' := cycle_of_commandPhase { inp with irRx := l } (s.withLine x y z) { t.withLine x y z with rsp := r } hrst
    (by rw [State.timerPhase_withLine x y z s _ hm hr, State.edgePhase_of_disarmed _ hdisarmed']; exact hu)
  exact ⟨_, _, hcycle, hcycle', rfl, rfl, rfl, hrsp⟩

end Sys2Proof.Machine

/-! PROOFS. The receiver: EDGE, RX_TICK and the three commands on the result slot, the word a session samples and what
becomes of it, and what reaches the host of a frame that is sent to it (41_receive.md). -/

namespace Sys2Proof

theorem decode_of_available {w : CmdWord} (h : w.op = 2) : decode w = .available := by
  simp [decode, h]

theorem decode_of_receiveByte {w : CmdWord} (h : w.op = 3) : decode w = .receiveByte := by
  simp [decode, h]

theorem decode_of_isReceiving {w : CmdWord} (h : w.op = 4) : decode w = .isReceiving := by
  simp [decode, h]

end Sys2Proof

namespace Sys2Proof.Machine

/-! ### The operations of the receiver (R130, R133 to R136, R138) -/

/-- The tenth tick brings the count to 10, and no other does. -/
theorem bitCount_succ_eq_ten_iff (c : BitCount) : c + 1 = 10 ↔ c = 9 := by
  bv_omega

/-- A word is rejected for its parity or for its stop bit (R135). -/
theorem checkFrame_ne_commit_iff (w : RxWord) :
    (∀ c, checkFrame w ≠ .commit c) ↔ parity8 (candidate w) ≠ w.getLsbD 8 ∨ w.getLsbD 9 = false := by
  rcases checkFrame_cases w with ⟨hparity, hstop, h⟩ | ⟨hparity, h⟩ | ⟨-, hstop, h⟩
  · simp [h, hparity, hstop]
  · exact ⟨fun _ => .inl hparity, fun _ => by simp [h]⟩
  · exact ⟨fun _ => .inr hstop, fun _ => by simp [h]⟩

section
variable {a : Arch}

/-- With a valid slot the trigger is a no-op (R131). -/
theorem Arch.edge_of_full_slot (hv : a.resValid = true) : a.edge = a := by
  rcases Arch.edge_cases a with ⟨-, he⟩ | ⟨hempty, -⟩
  · exact he
  · simp [hv] at hempty

theorem Arch.edge_of_empty_slot (hv : a.resValid = false) : a.edge = a.startReceive := by
  rcases Arch.edge_cases a with ⟨hfull, -⟩ | ⟨-, he⟩
  · simp [hv] at hfull
  · exact he

/-- Before the tenth of a session RX_TICK samples and counts. -/
theorem Arch.rxTick_of_not_tenth (level : Bool) (hc : a.rxCount ≠ 9) : a.rxTick level = a.sampleBit level := by
  rcases Arch.rxTick_cases level a with ⟨-, ht⟩ | ⟨hc', -⟩
  · exact ht
  · exact absurd hc' hc

/-- The tenth of a session also completes it. -/
theorem Arch.rxTick_of_tenth (level : Bool) (hc : a.rxCount = 9) :
    a.rxTick level = (a.sampleBit level).completeReceive := by
  rcases Arch.rxTick_cases level a with ⟨hc', -⟩ | ⟨-, ht⟩
  · exact absurd hc hc'
  · exact ht

theorem Arch.completeReceive_of_commit {b : Byte} (h : checkFrame a.rxAcc = .commit b) :
    a.completeReceive = a.endReceive.fillSlot b := by
  rcases Arch.completeReceive_cases a with ⟨hcommit, hc⟩ | ⟨hreject, -⟩
  · rw [hc, FrameCheck.commit.inj (hcommit.symm.trans h)]
  · exact absurd h (hreject b)

theorem Arch.completeReceive_of_reject (h : ∀ c, checkFrame a.rxAcc ≠ .commit c) :
    a.completeReceive = a.endReceive.reject := by
  rcases Arch.completeReceive_cases a with ⟨hcommit, -⟩ | ⟨-, hr⟩
  · exact absurd hcommit (h _)
  · exact hr

/-- In a session RECEIVE_BYTE answers "no data" and changes nothing. -/
theorem Arch.receiveByte_in_receive (hr : a.rxActive = true) : a.receiveByte = (a, 0xFFFF) := by
  rcases Arch.receiveByte_cases a with ⟨-, h⟩ | ⟨hr', -⟩ | ⟨hr', -⟩
  · exact h
  · simp [hr] at hr'
  · simp [hr] at hr'

/-- Outside a session RECEIVE_BYTE answers and empties the slot, and arms the trigger in IDLE (R139). -/
theorem Arch.receiveByte_outside_receive (hr : a.rxActive = false) : a.receiveByte =
    ({ a.clearSlot with armed := if a.mode = .idle then true else a.armed }, a.slotResponse) := by
  simp [Arch.receiveByte, hr]

/-- RECEIVE_BYTE leaves nothing for the next one: a session goes on, or the slot is empty and armed as it should be. -/
theorem Arch.receiveByte_twice (a : Arch) : a.receiveByte.1.receiveByte = (a.receiveByte.1, 0xFFFF) := by
  rcases Arch.receiveByte_cases a with ⟨hr, h⟩ | ⟨hr, hm, h⟩ | ⟨hr, hm, h⟩
  · rw [h]
    exact Arch.receiveByte_in_receive hr
  · rw [h, Arch.receiveByte_outside_receive (by simpa using hr)]
    simp [Arch.clearSlot, Arch.slotResponse, noData, hm]
  · rw [h, Arch.receiveByte_outside_receive (by simpa using hr)]
    simp [Arch.clearSlot, Arch.slotResponse, noData, hm]

end

/-! ### The phases of a clock cycle and the receiver (R195 to R197) -/

section
variable {s : State}

/-- RX_TICK comes in the last cycle of a bit period after the settling delay, and clears the counter. -/
theorem State.timerPhase_of_rxTick (level : Bool) (hm : s.mode ≠ .tx) (hr : s.rxActive = true)
    (hsettled : s.settle.toNat = 0) (hlast : s.bpc.toNat = s.params.bitDiv - 1) :
    s.timerPhase level = { s with toArch := s.toArch.rxTick level, bpc := 0 } := by
  simp [State.timerPhase, State.tick, Arch.sessionActive, hm, hr, hsettled, hlast]

/-- In the other cycles of a bit period after the settling delay the timer only counts. -/
theorem State.timerPhase_of_rx_counting (level : Bool) (hr : s.rxActive = true)
    (hsettled : s.settle.toNat = 0) (hlast : s.bpc.toNat ≠ s.params.bitDiv - 1) :
    s.timerPhase level = { s with bpc := s.bpc + 1 } := by
  simp [State.timerPhase, Arch.sessionActive, hr, hsettled, hlast]

/-- No EDGE without a fall of the line (R130). -/
theorem State.edgePhase_of_no_fall (s : State) : s.edgePhase false = s := by
  rcases State.edgePhase_cases false s with ⟨-, he⟩ | ⟨hfall, -⟩
  · exact he
  · cases hfall

/-- An effective EDGE starts the session and its settling delay. -/
theorem State.edgePhase_of_effective (harmed : s.armed = true) (hv : s.resValid = false) :
    s.edgePhase true =
      { s with toArch := s.toArch.startReceive, settle := BitVec.ofNat _ s.params.settleDiv, bpc := 0 } := by
  rcases State.edgePhase_cases true s with ⟨hnone, -⟩ | ⟨-, -, -, he⟩
  · simp [harmed, hv] at hnone
  · exact he

end

/-! ### The events and the commands, register by register -/

/-- Settles O26: the tenth tick completes the session with the word it has sampled, by the outcome of the check. -/
theorem tenthRxTickCommitsOrRejects : Obligations.TenthRxTickCommitsOrRejects := by
  intro level a w hc hw
  obtain rfl : w = (a.sampleBit level).rxAcc := hw
  rw [Arch.rxTick_of_tenth level ((bitCount_succ_eq_ten_iff a.rxCount).mp hc)]
  refine ⟨fun hparity hstop => ?_, fun hbad => ?_⟩
  · exact Arch.completeReceive_of_commit ((checkFrame_eq_commit_iff _ _).mpr ⟨rfl, hparity.symm, hstop⟩)
  · exact Arch.completeReceive_of_reject ((checkFrame_ne_commit_iff _).mpr hbad)

/-- Settles O24: the cases of phase 2, and of EDGE itself, by the fall, the trigger and the slot. -/
theorem edgeStartsASession : Obligations.EdgeStartsASession := by
  intro fall s
  refine ⟨Iff.rfl, fun hnone => ?_, fun _ _ hv => ?_, fun hfall harmed hv => ?_⟩
  · rcases hnone with rfl | hdisarmed
    · exact s.edgePhase_of_no_fall
    · exact State.edgePhase_of_disarmed fall hdisarmed
  · exact ⟨State.edgePhase_of_full_slot fall hv, Arch.edge_of_full_slot hv⟩
  · subst hfall
    rw [State.edgePhase_of_effective harmed hv, Arch.edge_of_empty_slot hv]
    exact ⟨rfl, settle_load_toNat s.params, rfl⟩

/-- Settles O25: RX_TICK before the tenth, and the timer's three cases in a receive session. -/
theorem rxTickSamplesOneBit : Obligations.RxTickSamplesOneBit := by
  refine ⟨fun level a => ⟨Iff.rfl, fun hc => ?_⟩, fun level s hm hr => ⟨?_, ?_, ?_⟩⟩
  · exact Arch.rxTick_of_not_tenth level (mt (bitCount_succ_eq_ten_iff _).mpr hc)
  · exact State.timerPhase_of_settling level hr
  · exact State.timerPhase_of_rxTick level (by simp [hm]) hr
  · exact State.timerPhase_of_rx_counting level hr

/-- Settles O6: the registers stay, and the answer is the flag `resultAvailable`. -/
theorem availableAnswersPendingResult : Obligations.AvailableAnswersPendingResult := by
  intro s
  refine ⟨fun w hop => decode_of_available hop, ?_⟩
  simp [exec_eq, Arch.command, Arch.available, Arch.resultAvailable, boolResponse, State.answer]

/-- Settles O8: the registers stay, and the answer is `rxActive`. -/
theorem isReceivingAnswersSession : Obligations.IsReceivingAnswersSession := by
  intro s
  refine ⟨fun w hop => decode_of_isReceiving hop, ?_⟩
  simp [exec_eq, Arch.command, Arch.isReceiving, boolResponse, State.answer]

/-- Settles O7: `exec_eq` with the two cases of RECEIVE_BYTE, and once more on the registers it leaves. -/
theorem receiveByteReturnsAndEmptiesSlot : Obligations.ReceiveByteReturnsAndEmptiesSlot := by
  intro s
  refine ⟨fun w hop => decode_of_receiveByte hop, fun hr => ?_, fun hr => ?_, fun t ht => ?_⟩
  · simp [exec_eq, Arch.command, Arch.receiveByte_in_receive hr, State.answer]
  · rw [exec_eq, Arch.command, Arch.receiveByte_outside_receive hr]
    rfl
  · rw [exec_eq] at ht
    cases ht
    obtain ⟨harch, hrsp⟩ := Prod.ext_iff.mp s.toArch.receiveByte_twice
    exact ⟨_, exec_eq .receiveByte _, hrsp, harch⟩

/-! ### Errors on the wire (R144) -/

theorem parity8_xor (b c : Byte) : parity8 (b ^^^ c) = (parity8 b ^^ parity8 c) := by
  have hcomm : Std.Commutative Bool.xor := ⟨Bool.xor_comm⟩
  simp only [parity8, BitVec.getLsbD_xor]
  ac_rfl

theorem candidate_xor (v w : RxWord) : candidate (v ^^^ w) = candidate v ^^^ candidate w :=
  BitVec.extractLsb'_xor

/-- Payload and parity bit together have an odd number of bits set exactly when they do not match. -/
theorem parity8_candidate_xor_parityBit (w : RxWord) :
    (parity8 (candidate w) ^^ w.getLsbD 8) = decide (onesBelow 9 w % 2 = 1) := by
  have hnone : decide (onesBelow 0 w % 2 = 1) = false := rfl
  simp [onesBelow_succ_odd, hnone, parity8, candidate]

/-- What the check says of an accepted word with errors: the payload, the parity and the stop bit each carry their part
of the pattern, so the word is still accepted exactly when the pattern is even and spares the stop bit. -/
theorem checkFrame_xor_eq_commit_iff {w : RxWord} {b : Byte} (h : checkFrame w = .commit b) (e : RxWord) (c : Byte) :
    checkFrame (w ^^^ e) = .commit c ↔
      b ^^^ candidate e = c ∧ onesBelow 9 e % 2 = 0 ∧ e.getLsbD 9 = false := by
  obtain ⟨hb, hparity, hstop⟩ := (checkFrame_eq_commit_iff w b).mp h
  have heven : (w.getLsbD 8 ^^ e.getLsbD 8) = (parity8 b ^^ parity8 (candidate e)) ↔ onesBelow 9 e % 2 = 0 := by
    have hodd := parity8_candidate_xor_parityBit e
    calc (w.getLsbD 8 ^^ e.getLsbD 8) = (parity8 b ^^ parity8 (candidate e))
      _ ↔ (parity8 (candidate e) ^^ e.getLsbD 8) = false := by
        rw [hparity, Bool.xor_right_inj, eq_comm, bne_eq_false_iff_eq]
      _ ↔ onesBelow 9 e % 2 = 0 := by rw [hodd, decide_eq_false_iff_not]; exact Nat.mod_two_ne_one
  rw [checkFrame_eq_commit_iff, candidate_xor, hb, BitVec.getLsbD_xor, BitVec.getLsbD_xor, hstop, Bool.true_xor,
    Bool.not_eq_true']
  refine and_congr_right fun hc => ?_
  rw [← hc, parity8_xor, heven]

/-- Settles O29: the two clauses are the two outcomes of `checkFrame_xor_eq_commit_iff`. -/
theorem oddErrorsAreDetected : Obligations.OddErrorsAreDetected := by
  intro w e b h
  refine ⟨fun hbad c hc => ?_, fun heven hstop => ?_⟩
  · obtain ⟨-, heven, hstop⟩ := (checkFrame_xor_eq_commit_iff h e c).mp hc
    exact absurd hbad (by rw [heven, hstop]; decide)
  · exact (checkFrame_xor_eq_commit_iff h e _).mpr ⟨rfl, heven, hstop⟩

/-! ### The samples of a session (R133, R142) -/

/-- The registers after some samples, given as the bits they put into the accumulator (R133). -/
def Arch.sampleBits (bits : List Bool) (a : Arch) : Arch := bits.foldl (fun x bit => x.sampleBit (!bit)) a

theorem Arch.sampleBits_append (bits more : List Bool) (a : Arch) :
    a.sampleBits (bits ++ more) = (a.sampleBits bits).sampleBits more :=
  List.foldl_append

@[simp] theorem Arch.sampleBits_nil (a : Arch) : a.sampleBits [] = a := rfl

@[simp] theorem Arch.sampleBits_cons (bit : Bool) (bits : List Bool) (a : Arch) :
    a.sampleBits (bit :: bits) = (a.sampleBit (!bit)).sampleBits bits := rfl

/-- Samples touch nothing but what the end of the session clears. -/
theorem Arch.sampleBits_endReceive (bits : List Bool) (a : Arch) : (a.sampleBits bits).endReceive = a.endReceive := by
  induction bits generalizing a with
  | nil => rfl
  | cons bit bits ih => exact ih _

@[simp] theorem Arch.sampleBits_rxActive (bits : List Bool) (a : Arch) : (a.sampleBits bits).rxActive = a.rxActive := by
  induction bits generalizing a with
  | nil => rfl
  | cons bit bits ih => exact ih _

/-- Up to the tenth the samples are counted without wrapping. -/
theorem Arch.sampleBits_rxCount (bits : List Bool) (a : Arch) (h : a.rxCount.toNat + bits.length ≤ 10) :
    (a.sampleBits bits).rxCount.toNat = a.rxCount.toNat + bits.length := by
  induction bits generalizing a with
  | nil => rfl
  | cons bit bits ih =>
    simp only [List.length_cons] at h
    have hsucc := bitCount_succ_toNat a.rxCount (by bv_omega)
    rw [Arch.sampleBits_cons, ih _ (by rw [Arch.sampleBit_rxCount]; omega), Arch.sampleBit_rxCount, hsucc,
      List.length_cons]
    omega

/-- In a fresh session the count is the number of samples. -/
theorem Arch.sampleBits_rxCount_of_fresh (bits : List Bool) {a : Arch} (hcount : a.rxCount = 0)
    (hlen : bits.length ≤ 10) : (a.sampleBits bits).rxCount.toNat = bits.length := by
  simpa [hcount] using Arch.sampleBits_rxCount bits a (by simpa [hcount] using hlen)

/-- One sample is bit 0 of a word of zeros. -/
theorem sample_getLsbD (bit : Bool) (k : Nat) :
    ((BitVec.ofBool bit).setWidth 10).getLsbD k = (decide (k = 0) && bit) := by
  cases bit <;> cases k <;> simp

/-- A fresh session's accumulator holds sample `k` at bit `k` (R23, R133). -/
theorem Arch.sampleBits_getLsbD (bits : List Bool) {a : Arch} (hacc : a.rxAcc = 0) (hcount : a.rxCount = 0)
    (hlen : bits.length ≤ 10) (k : Nat) : (a.sampleBits bits).rxAcc.getLsbD k = bits.getD k false := by
  induction bits using List.reverseRecOn with
  | nil => simp [hacc]
  | append_singleton bits bit ih =>
    rw [List.length_append, List.length_singleton] at hlen
    have hn := Arch.sampleBits_rxCount_of_fresh bits hcount (by omega)
    rw [Arch.sampleBits_append, Arch.sampleBits_cons, Arch.sampleBits_nil, Arch.sampleBit_rxAcc, Bool.not_not, hn,
      BitVec.getLsbD_or, ih (by omega), BitVec.getLsbD_shiftLeft, sample_getLsbD]
    rcases Nat.lt_trichotomy k bits.length with hk | rfl | hk
    · rw [List.getD_append _ _ _ _ hk]
      simp [hk]
    · simp [show bits.length < 10 by omega]
    · simp [show bits.length ≤ k by omega, show k - bits.length ≠ 0 by omega, hk]

/-- A sample shifted in at the top is a sample put at its place, the places still free shifted out of the way: what the
shift register holds is the indexed accumulator, moved up by the samples to come. -/
theorem shiftSample_shiftLeft (bit : Bool) (acc : RxWord) {n : Nat} (hn : n < 10) (hfree : acc.getLsbD n = false) :
    shiftSample bit (acc <<< (10 - n)) =
      (acc ||| ((BitVec.ofBool bit).setWidth 10 <<< n)) <<< (10 - (n + 1)) := by
  have hmove : acc <<< (10 - n) >>> 1 = acc <<< (9 - n) := BitVec.eq_of_getLsbD_eq fun k hk => by
    rw [BitVec.getLsbD_ushiftRight, BitVec.getLsbD_shiftLeft, BitVec.getLsbD_shiftLeft,
      show 1 + k - (10 - n) = k - (9 - n) by omega]
    by_cases hlast : k = 9
    · simp [hlast, show 9 - (9 - n) = n by omega, hfree]
    · simp [show 1 + k < 10 by omega, hk, show 1 + k < 10 - n ↔ k < 9 - n by omega]
  rw [shiftSample, hmove, BitVec.shiftLeft_or_distrib, ← BitVec.shiftLeft_add, show 10 - (n + 1) = 9 - n by omega,
    show n + (9 - n) = 9 by omega]

/-- The shift register after `n` samples: the indexed accumulator, `10 - n` places up (R142). -/
theorem foldl_shiftSample_eq (bits : List Bool) {a : Arch} (hacc : a.rxAcc = 0) (hcount : a.rxCount = 0)
    (hlen : bits.length ≤ 10) :
    bits.foldl (fun acc bit => shiftSample bit acc) 0 = (a.sampleBits bits).rxAcc <<< (10 - bits.length) := by
  induction bits using List.reverseRecOn with
  | nil => simp [hacc]
  | append_singleton bits bit ih =>
    rw [List.length_append, List.length_singleton] at hlen ⊢
    have hfree : (a.sampleBits bits).rxAcc.getLsbD bits.length = false := by
      rw [Arch.sampleBits_getLsbD bits hacc hcount (by omega)]
      simp
    have hn := Arch.sampleBits_rxCount_of_fresh bits hcount (by omega)
    rw [List.foldl_append, List.foldl_cons, List.foldl_nil, ih (by omega), shiftSample_shiftLeft bit _ (by omega) hfree,
      Arch.sampleBits_append, Arch.sampleBits_cons, Arch.sampleBits_nil, Arch.sampleBit_rxAcc, Bool.not_not, hn]

/-- Settles O32: after the tenth sample the shift register's content stands in its place. -/
theorem shiftRegisterFormIsEquivalent : Obligations.ShiftRegisterFormIsEquivalent := by
  intro bits a hlen hacc hcount
  rw [foldl_shiftSample_eq bits hacc hcount hlen.le, hlen, Nat.sub_self, BitVec.shiftLeft_zero]
  rfl

/-! ### A whole session, and the round trip (R143) -/

/-- Before the tenth tick a run of RX_TICK only samples. -/
theorem Arch.run_rxTicks (bits : List Bool) {a : Arch} (hr : a.rxActive = true)
    (hlen : a.rxCount.toNat + bits.length ≤ 9) :
    Arch.run (bits.map (fun bit => Event.rxTick (!bit))) a = some (a.sampleBits bits) := by
  induction bits generalizing a with
  | nil => rfl
  | cons bit bits ih =>
    rw [List.length_cons] at hlen
    have hne : a.rxCount ≠ 9 := by bv_omega
    have hsucc : (a.sampleBit (!bit)).rxCount.toNat = a.rxCount.toNat + 1 := bitCount_succ_toNat a.rxCount (by bv_omega)
    rw [List.map_cons, Arch.run, if_pos (show (Event.rxTick (!bit)).enabled a = true from hr), Event.apply,
      Arch.rxTick_of_not_tenth _ hne, Arch.sampleBits_cons]
    exact ih hr (by omega)

/-- Ten ticks on a fresh session sample ten bits and complete it. -/
theorem Arch.run_tenRxTicks (bits : List Bool) (bit : Bool) {a : Arch} (hr : a.rxActive = true) (hcount : a.rxCount = 0)
    (hlen : bits.length = 9) :
    Arch.run ((bits ++ [bit]).map (fun bit => Event.rxTick (!bit))) a =
      some (a.sampleBits (bits ++ [bit])).completeReceive := by
  have hnine : (a.sampleBits bits).rxCount = 9 :=
    BitVec.eq_of_toNat_eq ((Arch.sampleBits_rxCount_of_fresh bits hcount (by omega)).trans hlen)
  have hactive : (Event.rxTick (!bit)).enabled (a.sampleBits bits) = true := (Arch.sampleBits_rxActive bits a).trans hr
  rw [List.map_append, Arch.run_append _ _ _ _ (Arch.run_rxTicks bits hr (by simp [hcount, hlen])), List.map_singleton,
    Arch.run, if_pos hactive, Event.apply, Arch.rxTick_of_tenth _ hnine, Arch.run, Arch.sampleBits_append,
    Arch.sampleBits_cons, Arch.sampleBits_nil]

/-- A fresh session that samples the bits of a word has the word in its accumulator. -/
theorem Arch.sampleBits_rxAcc_of_word (w : RxWord) {a : Arch} (hacc : a.rxAcc = 0) (hcount : a.rxCount = 0) :
    (a.sampleBits ((List.range 10).map w.getLsbD)).rxAcc = w :=
  BitVec.eq_of_getLsbD_eq fun k hk => by
    rw [Arch.sampleBits_getLsbD _ hacc hcount (by simp), List.getD_eq_getElem _ _ (by simpa using hk)]
    simp

/-- Ten ticks on the bits of a word that the check commits as `b` deliver `b`. -/
theorem Arch.run_word_of_commit {w : RxWord} {b : Byte} {a : Arch} (h : checkFrame w = .commit b)
    (hr : a.rxActive = true) (hacc : a.rxAcc = 0) (hcount : a.rxCount = 0) :
    Arch.run (((List.range 10).map w.getLsbD).map (fun bit => Event.rxTick (!bit))) a =
      some (a.endReceive.fillSlot b) := by
  have hcheck := (congrArg checkFrame (Arch.sampleBits_rxAcc_of_word w hacc hcount)).trans h
  rw [List.range_succ, List.map_append, List.map_singleton] at hcheck ⊢
  rw [Arch.run_tenRxTicks _ _ hr hcount (by simp), Arch.completeReceive_of_commit hcheck, Arch.sampleBits_endReceive]

/-- The start bit, which the first TX_TICK emits (R82). -/
theorem frame_start (b : Byte) : (frame b).getLsbD 0 = true := by
  simp only [frame, BitVec.getLsbD_append]
  simp

/-- The sender's gate after ticks 2 to 11 shows the word that a receiver of the frame is to sample (R82, R86). -/
theorem gatesOf_sampled (a : Arch) :
    ((gatesOf 12 a).drop 1).take 10 = (List.range 10).map (a.txShift.extractLsb' 1 10).getLsbD := by
  have hsampled : ((List.range 12).drop 1).take 10 = (List.range 10).map (· + 1) := by decide
  rw [gatesOf_eq_bits, ← List.map_drop, ← List.map_take, hsampled, List.map_map]
  refine List.map_congr_left fun k hk => ?_
  simp [List.mem_range.mp hk, Nat.add_comm]

/-- Settles O31: SEND puts the frame on the gate, bits 1 to 10 of it are a word the check commits as `b`, and EDGE starts
the session that samples them. -/
theorem roundTripDeliversTheByte : Obligations.RoundTripDeliversTheByte := by
  intro a r b hm hr harmed hv
  have hcommit : checkFrame ((frame b).extractLsb' 1 10) = .commit b := (acceptedWordsAreTheFrames.2 _ b).mpr rfl
  rw [Arch.send_of_free b hm hr]
  refine ⟨?_, ?_⟩
  · exact congrArg some ((Arch.txTick_gate (a.loadFrame b)).trans (frame_start b))
  · rw [gatesOf_sampled, Arch.loadFrame_txShift, Arch.run, if_pos (show Event.edge.enabled r = true from harmed),
      Event.apply, Arch.edge_of_empty_slot hv, Arch.run_word_of_commit hcommit rfl rfl rfl]
    rfl

end Sys2Proof.Machine

/-! PROOFS. Carrier sense and the arbiter: SET_CARRIER and DETECT_CARRIER, and who may change `mode`, `rxActive`, the
trigger and `gate` (42_carrier_and_arbiter.md). -/

namespace Sys2Proof

theorem decode_of_detectCarrier {w : CmdWord} (h : w.op = 6) : decode w = .detectCarrier := by
  simp [decode, h]

end Sys2Proof

namespace Sys2Proof.Machine

/-! ### SET_CARRIER (R161, R162) -/

section
variable {a : Arch} (en : Bool)

/-- Turned away, SET_CARRIER changes nothing and answers false. -/
theorem Arch.setCarrier_of_busy (h : a.mode = .tx ∨ a.rxActive = true) : a.setCarrier en = (a, 0x0000) := by
  rcases Arch.setCarrier_cases en a with ⟨-, hs⟩ | ⟨hm, hr, -⟩
  · exact hs
  · simp [hm, hr] at h

/-- Outside both kinds of session SET_CARRIER sets the carrier and answers true. -/
theorem Arch.setCarrier_of_free (hm : a.mode ≠ .tx) (hr : a.rxActive = false) :
    a.setCarrier en = (if en then a.carrierOn else a.carrierOff, 0x0001) := by
  rcases Arch.setCarrier_cases en a with ⟨hbusy, -⟩ | ⟨-, -, hs⟩
  · simp [Arch.sessionActive, Arch.txActive, hm, hr] at hbusy
  · exact hs

/-- Busy, a state answers SET_CARRIER on `rsp` and keeps everything else. -/
theorem exec_setCarrier_of_busy {s : State} (h : s.mode = .tx ∨ s.rxActive = true) :
    exec (.setCarrier en) s = .next { s with rsp := 0x0000, rspValid := true } := by
  rw [exec_eq, Arch.command, Arch.setCarrier_of_busy en h]
  rfl

end

/-! ### The arbiter (R165, R167, R168) -/

/-- What an event may do to the owner of the link: keep `mode`, `rxActive` and `gate`, or one of the operations that
write them, each in the situation in which it is performed and with all the registers it leaves. -/
inductive ArbiterStep : Event → Arch → Arch → Prop where
  | keep {e : Event} {a x : Arch} (mode_eq : x.mode = a.mode) (rxActive_eq : x.rxActive = a.rxActive)
      (gate_eq : x.gate = a.gate) : ArbiterStep e a x
  | send {a : Arch} (b : Byte) (level : Bool) (hm : a.mode = .idle) (hr : a.rxActive = false) :
      ArbiterStep (.command (.send b) level) a (a.loadFrame b)
  | carrierOn {a : Arch} (level : Bool) (hm : a.mode ≠ .tx) (hr : a.rxActive = false) :
      ArbiterStep (.command (.setCarrier true) level) a a.carrierOn
  | carrierOff {a : Arch} (level : Bool) (hm : a.mode ≠ .tx) (hr : a.rxActive = false) :
      ArbiterStep (.command (.setCarrier false) level) a a.carrierOff
  | emitBit {a : Arch} (hm : a.mode = .tx) (hc : a.txCount ≠ 11) : ArbiterStep .txTick a a.emitBit
  | endTransmit {a : Arch} (hm : a.mode = .tx) (hc : a.txCount = 11) : ArbiterStep .txTick a a.emitBit.endTransmit
  | startReceive {a : Arch} (harmed : a.armed = true) (hv : a.resValid = false) : ArbiterStep .edge a a.startReceive
  | completeReceive {a : Arch} (level : Bool) (hr : a.rxActive = true) (hc : a.rxCount = 9) :
      ArbiterStep (.rxTick level) a (a.sampleBit level).completeReceive

/-- Of the commands only an accepted SEND or SET_CARRIER acts on the owner: RECEIVE_BYTE writes the slot and the
trigger, and the others write no register. -/
theorem Arch.command_arbiterStep (i : Instr) (level : Bool) (a : Arch) :
    ArbiterStep (.command i level) a (a.command i level).1 := by
  cases i with
  | send b =>
    rcases Arch.send_cases b a with ⟨-, hs⟩ | ⟨hm, hr, hs⟩ <;> rw [Arch.command, hs]
    · exact .keep rfl rfl rfl
    · exact .send b level hm hr
  | setCarrier en =>
    rcases Arch.setCarrier_cases en a with ⟨-, hs⟩ | ⟨hm, hr, hs⟩ <;> rw [Arch.command, hs]
    · exact .keep rfl rfl rfl
    · cases en
      · exact .carrierOff level hm hr
      · exact .carrierOn level hm hr
  | receiveByte =>
    rcases Arch.receiveByte_cases a with ⟨-, hs⟩ | ⟨-, -, hs⟩ | ⟨-, -, hs⟩ <;> rw [Arch.command, hs] <;>
      exact .keep rfl rfl rfl
  | isSending => exact .keep rfl rfl rfl
  | available => exact .keep rfl rfl rfl
  | isReceiving => exact .keep rfl rfl rfl
  | detectCarrier => exact .keep rfl rfl rfl
  | reserved7 => exact .keep rfl rfl rfl

/-- Every event that may occur is a step of the arbiter: an EDGE on a full slot and an RX_TICK before the tenth keep the
owner, the other internal events are rows of their own. -/
theorem Event.apply_arbiterStep {e : Event} {a x : Arch} (hen : e.enabled a = true) (hx : e.apply a = x) :
    ArbiterStep e a x := by
  subst hx
  cases e with
  | command i level => exact Arch.command_arbiterStep i level a
  | edge =>
    rcases Arch.edge_cases a with ⟨-, he⟩ | ⟨hv, he⟩ <;> rw [Event.apply, he]
    · exact .keep rfl rfl rfl
    · exact .startReceive hen hv
  | txTick =>
    have hm := Event.txTick_enabled_iff.mp hen
    rcases Arch.txTick_cases a with ⟨hc, ht⟩ | ⟨hc, ht⟩ <;> rw [Event.apply, ht]
    · exact .emitBit hm hc
    · exact .endTransmit hm hc
  | rxTick level =>
    rcases Arch.rxTick_cases level a with ⟨-, ht⟩ | ⟨hc, ht⟩ <;> rw [Event.apply, ht]
    · exact .keep rfl rfl rfl
    · exact .completeReceive level hen hc

/-! What ending a receive session leaves of the owner: it releases the receiver, keeps `mode` and `gate`, and the next
reception waits for the host to read the slot or for the armed trigger. -/

@[simp] theorem Arch.completeReceive_mode (a : Arch) : a.completeReceive.mode = a.mode := by
  rcases Arch.completeReceive_cases a with ⟨-, hc⟩ | ⟨-, hc⟩ <;> simp [hc]

@[simp] theorem Arch.completeReceive_gate (a : Arch) : a.completeReceive.gate = a.gate := by
  rcases Arch.completeReceive_cases a with ⟨-, hc⟩ | ⟨-, hc⟩ <;> simp [hc]

@[simp] theorem Arch.completeReceive_rxActive (a : Arch) : a.completeReceive.rxActive = false := by
  rcases Arch.completeReceive_cases a with ⟨-, hc⟩ | ⟨-, hc⟩ <;> simp [hc]

theorem Arch.completeReceive_full_or_armed (a : Arch) :
    a.completeReceive.resValid = true ∨ a.completeReceive.armed = true := by
  rcases Arch.completeReceive_cases a with ⟨-, hc⟩ | ⟨-, hc⟩ <;> simp [hc]

/-- Settles O37, step by step of the arbiter. SET_CARRIER 1 in CS and SET_CARRIER 0 in IDLE are accepted and change no
owner; that an EDGE and an RX_TICK find the link in IDLE are the invariants R37 and R38. -/
theorem modeChangesAreThoseOfTheTable : Obligations.ModeChangesAreThoseOfTheTable := by
  intro e a x h hen hx
  cases Event.apply_arbiterStep hen hx with
  | keep mode_eq rxActive_eq => exact .inl ⟨mode_eq, rxActive_eq⟩
  | send b level hm hr => exact .inr (.inl ⟨hm, hr, ⟨b, level, rfl⟩, rfl, hr⟩)
  | carrierOn level hm hr =>
    cases hmode : a.mode with
    | idle => exact .inr (.inr (.inr (.inl ⟨rfl, hr, ⟨level, rfl⟩, rfl, hr⟩)))
    | tx => exact absurd hmode hm
    | cs => exact .inl ⟨rfl, rfl⟩
  | carrierOff level hm hr =>
    cases hmode : a.mode with
    | idle => exact .inl ⟨rfl, rfl⟩
    | tx => exact absurd hmode hm
    | cs => exact .inr (.inr (.inr (.inr (.inl ⟨rfl, ⟨level, rfl⟩, rfl, hr⟩))))
  | emitBit => exact .inl ⟨rfl, rfl⟩
  | endTransmit hm hc =>
    obtain ⟨hr, -⟩ := (Arch.inv_iff_of_transmitting hm).mp h
    exact .inr (.inr (.inl ⟨hm, hc, rfl, rfl, hr⟩))
  | startReceive harmed hv =>
    obtain ⟨hm, hr⟩ := h.armedInIdle harmed
    exact .inr (.inr (.inr (.inr (.inr (.inl ⟨hm, hr, hv, rfl, hm, rfl⟩)))))
  | completeReceive level hr hc =>
    have hm : (a.sampleBit level).completeReceive.mode = .idle := by simpa using h.receivingInIdle hr
    exact .inr (.inr (.inr (.inr (.inr (.inr
      ⟨hr, hc, ⟨level, rfl⟩, hm, Arch.completeReceive_rxActive _, Arch.completeReceive_full_or_armed _⟩)))))

/-- Settles O38: the first half is R38 in the registers the event leaves; for the second, the steps that leave TX or CS
for IDLE are the twelfth tick and SET_CARRIER 0, which both arm the trigger. -/
theorem triggerFollowsTheOwner : Obligations.TriggerFollowsTheOwner := by
  intro e a x h hen hx
  have hinv : x.Inv := hx ▸ eventsKeepTheInvariants e a h hen
  refine ⟨fun howned => ?_, fun hleft hidle => ?_⟩
  · by_contra harmed
    obtain ⟨hm, hr⟩ := hinv.armedInIdle (by simpa using harmed)
    simp [hm, hr] at howned
  · cases Event.apply_arbiterStep hen hx with
    | keep mode_eq => exact absurd (mode_eq.symm.trans hidle) hleft
    | send => cases hidle
    | carrierOn => cases hidle
    | carrierOff => rfl
    | emitBit => exact absurd hidle hleft
    | endTransmit => rfl
    | startReceive => exact absurd hidle hleft
    | completeReceive => exact absurd (by simpa using hidle) hleft

/-- Settles O39: of the arbiter's steps only those of TX_TICK and SET_CARRIER write `gate`. -/
theorem gateHasOneDriver : Obligations.GateHasOneDriver := by
  intro e a hen hgate
  generalize hx : e.apply a = x at hgate
  cases Event.apply_arbiterStep hen hx with
  | keep _ _ gate_eq => exact absurd gate_eq hgate
  | send => exact absurd rfl hgate
  | carrierOn level hm hr => exact .inr ⟨true, level, rfl, hm, hr, rfl⟩
  | carrierOff level hm hr => exact .inr ⟨false, level, rfl, hm, hr, rfl⟩
  | emitBit hm => exact .inl ⟨rfl, hm, rfl⟩
  | endTransmit hm => exact .inl ⟨rfl, hm, rfl⟩
  | startReceive => exact absurd rfl hgate
  | completeReceive => exact absurd (by simp) hgate

/-- CS lasts until SET_CARRIER 0: in CS there is no session to tick, and the trigger is disarmed. -/
theorem Event.apply_keeps_carrier {e : Event} {a : Arch} (h : a.Inv) (hm : a.mode = .cs) (hen : e.enabled a = true)
    (he : ∀ level, e ≠ .command (.setCarrier false) level) : (e.apply a).mode = .cs := by
  obtain ⟨hr, harmed, -⟩ := (Arch.inv_iff_of_carrierSensing hm).mp h
  generalize hx : e.apply a = x
  cases Event.apply_arbiterStep hen hx with
  | keep mode_eq => exact mode_eq.trans hm
  | send _ _ hm' => simp [hm] at hm'
  | carrierOn => rfl
  | carrierOff level => exact absurd rfl (he level)
  | emitBit hm' => simp [hm] at hm'
  | endTransmit hm' => simp [hm] at hm'
  | startReceive harmed' => simp [harmed] at harmed'
  | completeReceive _ hr' => simp [hr] at hr'

/-! ### The commands, register by register -/

/-- Settles O9: `exec_eq` with the two outcomes of SET_CARRIER; where CS lasts, R41 keeps the gate on. -/
theorem setCarrierOnHoldsCarrierOrIsBusy : Obligations.SetCarrierOnHoldsCarrierOrIsBusy := by
  intro s
  refine ⟨?_, exec_setCarrier_of_busy true, fun hm hr => ?_, fun h hm e hen he => ?_⟩
  · intro w (hop : w.op = 5) hbit
    rw [decode_of_setCarrier hop, hbit]
  · rw [exec_eq, Arch.command, Arch.setCarrier_of_free true hm hr]
    rfl
  · have hcs := Event.apply_keeps_carrier h hm hen he
    exact ⟨hcs, (eventsKeepTheInvariants e s.toArch h hen).gateInMode.1 hcs⟩

/-- Settles O10: `exec_eq` with the two outcomes of SET_CARRIER. -/
theorem setCarrierOffReturnsToListeningOrIsBusy : Obligations.SetCarrierOffReturnsToListeningOrIsBusy := by
  intro s
  refine ⟨?_, exec_setCarrier_of_busy false, fun hm hr => ?_⟩
  · intro w (hop : w.op = 5) hbit
    rw [decode_of_setCarrier hop, hbit]
  · rw [exec_eq, Arch.command, Arch.setCarrier_of_free false hm hr]
    rfl

/-- Settles O11: the registers stay, and the answer is the complement of `s2`. -/
theorem detectCarrierAnswersLineLow : Obligations.DetectCarrierAnswersLineLow := by
  intro s
  refine ⟨fun w hop => decode_of_detectCarrier hop, ?_⟩
  simp [exec_eq, Arch.command, Arch.detectCarrier, boolResponse, State.answer]

end Sys2Proof.Machine

/-! PROOFS. The clock cycle (43_cycle_level.md): what every cycle does to the line, to the carrier phase and to the
ports, which events of the event level it performs, and the cycles of a schedule. -/

namespace Sys2Proof.Machine

/-! ### What the phases leave alone -/

/-- With a command on the port phase 3 performs it (R198). -/
theorem State.commandPhase_of_command {inp : Inputs} {s : State} (hc : inp.cmdValid = true) :
    s.commandPhase inp = exec (decode inp.word) s :=
  if_pos hc

/-- What phases 1 to 3 of a cycle leave as it was: the configuration, which nothing writes, and the synchroniser and the
carrier phase, which only phase 4 writes (R193, R199). -/
structure State.SameLine (s t : State) : Prop where
  params : t.params = s.params
  s1 : t.s1 = s.s1
  s2 : t.s2 = s.s2
  prev : t.prev = s.prev
  cph : t.cph.toNat = s.cph.toNat

theorem State.SameLine.trans {s t u : State} (h : s.SameLine t) (h' : t.SameLine u) : s.SameLine u :=
  ⟨h'.params.trans h.params, h'.s1.trans h.s1, h'.s2.trans h.s2, h'.prev.trans h.prev, h'.cph.trans h.cph⟩

section
variable (s : State)

/-- Phase 1 writes neither the line nor the response. -/
theorem State.timerPhase_sameLine (level : Bool) :
    s.SameLine (s.timerPhase level) ∧ (s.timerPhase level).rsp = s.rsp := by
  rcases State.timerPhase_cases level s with
    ⟨-, -, ht⟩ | ⟨-, -, ht⟩ | ⟨-, -, -, -, ht⟩ | ⟨-, -, ht⟩ | ⟨-, ht⟩ <;> rw [ht] <;>
    exact ⟨⟨rfl, rfl, rfl, rfl, rfl⟩, rfl⟩

/-- Phase 2 writes neither the line nor the response. -/
theorem State.edgePhase_sameLine (fall : Bool) :
    s.SameLine (s.edgePhase fall) ∧ (s.edgePhase fall).rsp = s.rsp := by
  rcases State.edgePhase_cases fall s with ⟨-, he⟩ | ⟨-, -, -, he⟩ <;> rw [he] <;>
    exact ⟨⟨rfl, rfl, rfl, rfl, rfl⟩, rfl⟩

/-- Phases 1 and 2: the tick and the EDGE of the cycle (R192). -/
def State.eventPhases (s : State) : State := (s.timerPhase s.s2).edgePhase s.fall

theorem State.eventPhases_sameLine : s.SameLine s.eventPhases ∧ s.eventPhases.rsp = s.rsp := by
  obtain ⟨htimer, hrsp⟩ := s.timerPhase_sameLine s.s2
  obtain ⟨hedge, hrsp'⟩ := (s.timerPhase s.s2).edgePhase_sameLine s.fall
  exact ⟨htimer.trans hedge, hrsp'.trans hrsp⟩

/-- Phase 3 completes and writes nothing of the line. -/
theorem State.commandPhase_sameLine (inp : Inputs) : ∃ u, s.commandPhase inp = .next u ∧ s.SameLine u := by
  obtain ⟨u, hu, hparams, -, -, hcph, hs1, hs2, hprev⟩ := s.commandPhase_counters inp
  exact ⟨u, hu, hparams, hs1, hs2, hprev, hcph⟩

end

/-! ### Whole cycles without reset -/

section
variable {inp : Inputs} {s t : State}

/-- Every cycle without reset is phase 4 after phases 1 to 3 (R192). -/
theorem cycle_eq_phases (inp : Inputs) (s : State) (hr : inp.rst = false) :
    ∃ u, s.eventPhases.commandPhase inp = .next u ∧ s.SameLine u ∧
      cycle inp s = .next (u.carrierSyncPhase s.gate inp.irRx) := by
  obtain ⟨u, hu, hline⟩ := s.eventPhases.commandPhase_sameLine inp
  exact ⟨u, hu, s.eventPhases_sameLine.1.trans hline, cycle_of_commandPhase inp s u hr hu⟩

/-- A cycle without reset and command (R198). -/
theorem cycle_of_no_command (hr : inp.rst = false) (hc : inp.cmdValid = false) : cycle inp s =
    .next (({ s.eventPhases with rspValid := false } : State).carrierSyncPhase s.gate inp.irRx) :=
  cycle_of_commandPhase inp s _ hr (State.commandPhase_of_no_command hc)

/-- Every cycle without reset moves the line one stage on and keeps the configuration (R193). -/
theorem cycle_line (hr : inp.rst = false) (h : cycle inp s = .next t) :
    t.params = s.params ∧ t.s1 = inp.irRx ∧ t.s2 = s.s1 ∧ t.prev = s.s2 := by
  obtain ⟨u, -, hline, hcycle⟩ := cycle_eq_phases inp s hr
  cases hcycle.symm.trans h
  exact ⟨hline.params, rfl, hline.s1, hline.s2⟩

/-- Every cycle without reset counts the carrier phase while the gate is on at both its ends, and clears it else
(R199). -/
theorem cycle_cph (hp : s.params.wellFormed = true) (hr : inp.rst = false) (h : cycle inp s = .next t) :
    t.cph.toNat = if s.gate = true ∧ t.gate = true then (s.cph.toNat + 1) % s.params.carrierDiv else 0 := by
  obtain ⟨-, -, hdiv, -⟩ := (Params.wellFormed_iff _).mp hp
  obtain ⟨u, -, hline, hcycle⟩ := cycle_eq_phases inp s hr
  cases hcycle.symm.trans h
  rw [u.carrierSyncPhase_cph_toNat s.gate inp.irRx (by rw [hline.params]; omega), hline.cph, hline.params]
  rfl

/-- Every cycle without reset completes. -/
theorem cycle_next (inp : Inputs) (s : State) (hr : inp.rst = false) : ∃ t, cycle inp s = .next t := by
  obtain ⟨u, -, -, hcycle⟩ := cycle_eq_phases inp s hr
  exact ⟨_, hcycle⟩

/-- Outside all sessions, without an effective EDGE and without a command, a cycle changes no architectural register. -/
theorem cycle_quiet (hm : s.mode ≠ .tx) (hrx : s.rxActive = false) (hedge : s.fall = false ∨ s.armed = false)
    (hr : inp.rst = false) (hc : inp.cmdValid = false) : ∃ t, cycle inp s = .next t ∧ t.toArch = s.toArch := by
  have hphases : s.eventPhases = s := by
    rw [State.eventPhases, State.timerPhase_of_no_session s.s2 hm hrx]
    rcases hedge with hfall | harmed
    · rw [hfall, s.edgePhase_of_no_fall]
    · exact State.edgePhase_of_disarmed s.fall harmed
  refine ⟨_, cycle_of_no_command hr hc, ?_⟩
  rw [State.carrierSyncPhase_toArch, hphases]

/-- Outside all sessions an effective EDGE starts one, with its settling delay (R197). -/
theorem cycle_effective_edge (hm : s.mode ≠ .tx) (hrx : s.rxActive = false) (hfall : s.fall = true)
    (harmed : s.armed = true) (hv : s.resValid = false) (hr : inp.rst = false) (hc : inp.cmdValid = false) :
    ∃ t, cycle inp s = .next t ∧ t.toArch = s.toArch.startReceive ∧ t.bpc.toNat = 0 ∧
      t.settle.toNat = s.params.settleDiv := by
  have hphases : s.eventPhases =
      { s with toArch := s.toArch.startReceive, settle := BitVec.ofNat _ s.params.settleDiv, bpc := 0 } := by
    rw [State.eventPhases, State.timerPhase_of_no_session s.s2 hm hrx, hfall, State.edgePhase_of_effective harmed hv]
  refine ⟨_, cycle_of_no_command hr hc, ?_⟩
  rw [hphases]
  exact ⟨rfl, BitVec.toNat_zero, settle_load_toNat s.params⟩

end

/-! ### The events of a cycle (R202) -/

/-- Phase 1 performs at most one tick, enabled where it comes. -/
theorem State.timerPhase_runs_tick (level : Bool) (s : State) : ∃ ticks : List Event,
    (ticks = [] ∨ ticks = [.txTick] ∨ ticks = [.rxTick level]) ∧
    Arch.run ticks s.toArch = some (s.timerPhase level).toArch := by
  rcases State.timerPhase_cases level s with
    ⟨-, -, ht⟩ | ⟨hm, -, ht⟩ | ⟨-, hr, -, -, ht⟩ | ⟨-, -, ht⟩ | ⟨-, ht⟩
  · exact ⟨[], .inl rfl, by rw [ht]; rfl⟩
  · exact ⟨[.txTick], .inr (.inl rfl), by rw [ht, Arch.run, if_pos (Event.txTick_enabled_iff.mpr hm)]; rfl⟩
  · have hen : (Event.rxTick level).enabled s.toArch = true := hr
    exact ⟨[.rxTick level], .inr (.inr rfl), by rw [ht, Arch.run, if_pos hen]; rfl⟩
  · exact ⟨[], .inl rfl, by rw [ht]; rfl⟩
  · exact ⟨[], .inl rfl, by rw [ht]; rfl⟩

/-- Phase 2 performs at most one EDGE, enabled where it comes. -/
theorem State.edgePhase_runs_edge (fall : Bool) (s : State) : ∃ edges : List Event,
    (edges = [] ∨ edges = [.edge]) ∧ Arch.run edges s.toArch = some (s.edgePhase fall).toArch := by
  rcases State.edgePhase_cases fall s with ⟨-, he⟩ | ⟨-, harmed, hv, he⟩
  · exact ⟨[], .inl rfl, by rw [he]; rfl⟩
  · have hen : Event.edge.enabled s.toArch = true := harmed
    exact ⟨[.edge], .inr rfl, by rw [he, Arch.run, if_pos hen, Event.apply, Arch.edge_of_empty_slot hv]; rfl⟩

/-- Phases 1 and 2 perform a tick and an EDGE in this order. -/
theorem State.eventPhases_run (s : State) : ∃ ticks edges : List Event,
    (ticks = [] ∨ ticks = [.txTick] ∨ ticks = [.rxTick s.s2]) ∧ (edges = [] ∨ edges = [.edge]) ∧
    Arch.run (ticks ++ edges) s.toArch = some s.eventPhases.toArch := by
  obtain ⟨ticks, hticks, hrun⟩ := s.timerPhase_runs_tick s.s2
  obtain ⟨edges, hedges, hrun'⟩ := (s.timerPhase s.s2).edgePhase_runs_edge s.fall
  exact ⟨ticks, edges, hticks, hedges, (Arch.run_append _ _ _ _ hrun).trans hrun'⟩

/-- Phase 3 performs the command that is presented, at the level `s2`, and without one leaves the registers and the
response (R198). -/
theorem State.commandPhase_runs_command {inp : Inputs} {s u : State} (hu : s.commandPhase inp = .next u) :
    (inp.cmdValid = false → u.toArch = s.toArch ∧ u.rsp = s.rsp) ∧
    (inp.cmdValid = true → u.toArch = (Event.command (decode inp.word) s.s2).apply s.toArch ∧
      some u.rsp = (Event.command (decode inp.word) s.s2).response s.toArch) := by
  cases hc : inp.cmdValid with
  | false =>
    cases (State.commandPhase_of_no_command hc).symm.trans hu
    exact ⟨fun _ => ⟨rfl, rfl⟩, nofun⟩
  | true =>
    rw [State.commandPhase_of_command hc, exec_eq] at hu
    cases hu
    exact ⟨nofun, fun _ => ⟨rfl, rfl⟩⟩

/-- Settles O40: the events of phases 1 and 2 lead to the registers that phase 3 finds. -/
theorem cycleRefinesTheEventLevel : Obligations.CycleRefinesTheEventLevel := by
  intro s t hrst hstep
  obtain ⟨ticks, edges, hticks, hedges, hrun⟩ := s.portsTaken.eventPhases_run
  obtain ⟨u, hu, -, hcycle⟩ := cycle_eq_phases s.portsNow s.portsTaken hrst
  cases hcycle.symm.trans hstep
  obtain ⟨hline, hrsp⟩ := s.portsTaken.eventPhases_sameLine
  obtain ⟨hnone, hcommand⟩ := State.commandPhase_runs_command hu
  rw [hline.s2, s.portsTaken_s2] at hcommand
  rw [hrsp, s.portsTaken_rsp] at hnone
  rw [s.portsTaken_s2] at hticks
  rw [s.portsTaken_toArch] at hrun
  exact ⟨ticks, edges, _, hticks, hedges, hrun, hnone, hcommand⟩

/-! ### The schedule in the state (log entry 2) -/

/-- The same block with another future on its ports. -/
def State.withInputs (s : State) (l : List Inputs) : State := { s with inputs := l }

section
variable (s : State) (l : List Inputs)

theorem State.timerPhase_withInputs (level : Bool) :
    (s.withInputs l).timerPhase level = (s.timerPhase level).withInputs l := by
  simp only [State.timerPhase, State.tick, apply_ite (State.withInputs · l)]
  rfl

theorem State.edgePhase_withInputs (fall : Bool) :
    (s.withInputs l).edgePhase fall = (s.edgePhase fall).withInputs l := by
  simp only [State.edgePhase, apply_ite (State.withInputs · l)]
  rfl

theorem State.eventPhases_withInputs : (s.withInputs l).eventPhases = s.eventPhases.withInputs l := by
  rw [State.eventPhases, State.eventPhases, ← State.edgePhase_withInputs, ← State.timerPhase_withInputs]
  rfl

theorem State.commandPhase_withInputs (inp : Inputs) :
    ∃ u, s.commandPhase inp = .next u ∧ (s.withInputs l).commandPhase inp = .next (u.withInputs l) := by
  cases hc : inp.cmdValid with
  | false => exact ⟨_, State.commandPhase_of_no_command hc, State.commandPhase_of_no_command hc⟩
  | true =>
    rw [State.commandPhase_of_command hc, State.commandPhase_of_command hc]
    refine ⟨_, exec_eq _ s, ?_⟩
    cases decode inp.word <;> rfl

/-- A cycle neither reads nor writes what the ports will show later. -/
theorem cycle_withInputs (inp : Inputs) :
    ∃ t, cycle inp s = .next t ∧ cycle inp (s.withInputs l) = .next (t.withInputs l) := by
  cases hr : inp.rst with
  | true => exact ⟨_, cycle_of_reset inp s hr, cycle_of_reset inp (s.withInputs l) hr⟩
  | false =>
    obtain ⟨u, hu, hu'⟩ := s.eventPhases.commandPhase_withInputs l inp
    rw [← State.eventPhases_withInputs] at hu'
    exact ⟨_, cycle_of_commandPhase inp s u hr hu, cycle_of_commandPhase inp (s.withInputs l) _ hr hu'⟩

end

/-! ### One step with a record in the schedule (R198) -/

/-- With a record in the schedule a step is the cycle of that record. -/
theorem step_of_cons {s : State} {inp : Inputs} {rest : List Inputs} (h : s.inputs = inp :: rest) :
    step s = cycle inp (s.withInputs rest) := by
  rw [step, State.portsNow_cons s inp rest h, State.portsTaken_cons s inp rest h]
  rfl

/-- Settles O17: phase 3 with `cmd_valid` = 1 is `exec` of the decoded word. -/
theorem stepRunsThePresentedCommand : Obligations.StepRunsThePresentedCommand := by
  intro s inp rest i t hinputs hrst hcmd hdecode hexec
  rw [step_of_cons hinputs]
  refine cycle_of_commandPhase inp (s.withInputs rest) t hrst ?_
  rw [State.commandPhase_of_command hcmd, Inputs.word, cmdWord, hdecode]
  exact hexec

/-- Settles O18: of the phases that run without a command only phase 3 writes a port, and that is `rsp_valid`. -/
theorem stepWithoutCommandKeepsResponse : Obligations.StepWithoutCommandKeepsResponse := by
  intro s inp rest hinputs hrst hcmd
  have hstep := (step_of_cons hinputs).trans (cycle_of_no_command hrst hcmd)
  obtain ⟨-, hrsp⟩ := (s.withInputs rest).eventPhases_sameLine
  have hinputs' : (s.withInputs rest).eventPhases.inputs = rest := by rw [s.eventPhases_withInputs]; rfl
  exact ⟨hstep, _, hstep, hrsp, rfl, hinputs'⟩

/-! ### The synchroniser and the carrier phase (R193, R199, R200) -/

/-- Settles O41: each of the three cycles moves the line one stage on. -/
theorem synchroniserDelaysTheLine : Obligations.SynchroniserDelaysTheLine := by
  intro i j k s hi hj hk
  obtain ⟨t, ht⟩ := cycle_next i s hi
  obtain ⟨u, hu⟩ := cycle_next j t hj
  obtain ⟨v, hv⟩ := cycle_next k u hk
  obtain ⟨-, ht1, -⟩ := cycle_line hi ht
  obtain ⟨-, hu1, hu2, -⟩ := cycle_line hj hu
  obtain ⟨-, hv1, hv2, hv3⟩ := cycle_line hk hv
  exact ⟨v, by simp [cycles, ht, hu, hv], hv1, hv2.trans hu1, hv3.trans (hu2.trans ht1)⟩

theorem State.irTx_iff (s : State) :
    s.irTx = true ↔ s.gate = true ∧ s.cph.toNat < s.params.carrierDiv / 2 := by
  simp [State.irTx]

/-- Settles O48: `cycle_cph` by the gate before and after; `CARRIER_DIV` / 2 is not 0, so a gate that just rose drives
the emitter. -/
theorem carrierPhaseFollowsTheGate : Obligations.CarrierPhaseFollowsTheGate := by
  intro inp s t hp hr h
  obtain ⟨-, -, hdiv, -⟩ := (Params.wellFormed_iff _).mp hp
  obtain ⟨hparams, -⟩ := cycle_line hr h
  have hcph := cycle_cph hp hr h
  have htx : t.irTx = true ↔ t.gate = true ∧ t.cph.toNat < s.params.carrierDiv / 2 := by
    rw [t.irTx_iff, congrArg Params.carrierDiv hparams]
  refine ⟨fun hs ht => by simpa [hs, ht] using hcph, fun hoff => ?_, fun hs ht => ?_, htx⟩
  · rcases hoff with hs | ht
    · simpa [hs] using hcph
    · simpa [ht] using hcph
  · have hzero : t.cph.toNat = 0 := by simpa [hs] using hcph
    exact htx.mpr ⟨ht, by omega⟩

/-! ### Runs of cycles (R190) -/

/-- A property of the records so far and the state they lead to holds after the whole schedule, if every cycle of the
schedule keeps it. -/
theorem cycles_induction (P : List Inputs → State → Prop) {s : State} (ins : List Inputs) (h0 : P [] s)
    (hs : ∀ xs inp t, xs ++ [inp] <+: ins → P xs t → ∃ u, cycle inp t = .next u ∧ P (xs ++ [inp]) u) :
    ∃ t, cycles ins s = .next t ∧ P ins t := by
  induction ins using List.reverseRecOn with
  | nil => exact ⟨s, rfl, h0⟩
  | append_singleton xs inp ih =>
    obtain ⟨t, ht, hP⟩ := ih (fun ys i t h => hs ys i t (h.trans ⟨[inp], rfl⟩))
    obtain ⟨u, hu, hP'⟩ := hs xs inp t ⟨[], List.append_nil _⟩ hP
    exact ⟨u, by rw [cycles_append _ _ _ _ ht]; simp [cycles, hu], hP'⟩

/-- Settles O47: no cycle of the run changes an architectural register, so each counts the phase on. -/
theorem steadyCarrierIsASquareWave : Obligations.SteadyCarrierIsASquareWave := by
  intro ins s hp hm hrx harmed hgate hcph hrst hcmd
  obtain ⟨t, ht, harch, hparams, hphase⟩ := cycles_induction
    (fun xs t => t.toArch = s.toArch ∧ t.params = s.params ∧ t.cph.toNat = xs.length % s.params.carrierDiv)
    (s := s) ins ⟨rfl, rfl, by simpa using hcph⟩ (by
      rintro xs inp t hpre ⟨harch, hparams, hphase⟩
      have hmem : inp ∈ ins := hpre.subset (by simp)
      obtain ⟨u, hu, hkeep⟩ := cycle_quiet (s := t) (inp := inp) (by simp [harch, hm]) (by simp [harch, hrx])
        (.inr (by simp [harch, harmed])) (hrst inp hmem) (hcmd inp hmem)
      have hcount := cycle_cph (by rw [hparams, hp]) (hrst inp hmem) hu
      rw [hkeep, harch, hgate, hphase, hparams, if_pos ⟨rfl, rfl⟩, Nat.mod_add_mod] at hcount
      exact ⟨u, hu, hkeep.trans harch, (cycle_line (hrst inp hmem) hu).1.trans hparams, by simpa using hcount⟩)
  refine ⟨t, ht, by rw [harch, hm], hphase, ?_⟩
  rw [State.irTx, harch, hgate, hphase, hparams, Bool.true_and]

/-- A run of the machine goes on from where its first step leads. -/
theorem core_run_of_step {s t : State} (k : Nat) (h : step s = .next t) :
    Host.Core.run Sys2Proof.core (k + 1) s = Host.Core.run Sys2Proof.core k t := by
  have hcore : Sys2Proof.core.step s = .next t := h
  simp only [Host.Core.run, hcore]

/-- Settles O52: the first step is the first cycle, with the rest of the schedule in the state; which schedule that is
the cycle does not read. -/
theorem runConsumesTheSchedule : Obligations.RunConsumesTheSchedule := by
  intro s ins rest hinputs
  induction ins generalizing s with
  | nil =>
    have hsame : s.withInputs rest = s := by rw [State.withInputs, ← List.nil_append rest, ← hinputs]
    exact congrArg Host.Outcome.next hsame.symm
  | cons inp ins ih =>
    obtain ⟨t, ht, ht'⟩ := cycle_withInputs s rest inp
    obtain ⟨t₂, ht₂, hstep⟩ := cycle_withInputs s (ins ++ rest) inp
    cases ht.symm.trans ht₂
    replace hstep : step s = .next (t.withInputs (ins ++ rest)) := (step_of_cons hinputs).trans hstep
    have hcycles : cycles ins (t.withInputs rest) = cycles (inp :: ins) (s.withInputs rest) := by rw [cycles, ht']
    exact (core_run_of_step _ hstep).trans ((ih _ rfl).trans hcycles)

/-! ### The status outputs (R201) -/

/-- Settles O49: outputs and answers are the same flags. -/
theorem statusOutputsAreTheQueries : Obligations.StatusOutputsAreTheQueries := by
  intro s
  refine ⟨decide_eq_true_iff, rfl, rfl, ?_, ?_, ?_⟩ <;> rw [exec_eq] <;> rfl

end Sys2Proof.Machine

/-! PROOFS. How long the sessions of one link take (43_cycle_level.md R203, R204): a transmit session is described by
the ticks it has performed and the cycles since the last one, a receive session by its settling delay as well. -/

namespace Sys2Proof.Machine

/-! ### A cycle in a session -/

/-- In a session phase 3 writes no register but those of the event level and the response: SEND, which alone clears
`bpc`, is busy (R111, R198). -/
theorem State.commandPhase_in_session {s : State} (inp : Inputs) (hbusy : s.sendBusy = true) :
    ∃ u, s.commandPhase inp = .next u ∧ (u.toArch = s.toArch ∨ ∃ i, u.toArch = (s.toArch.command i s.s2).1) ∧
    u.params = s.params ∧ u.bpc.toNat = s.bpc.toNat ∧ u.settle.toNat = s.settle.toNat := by
  cases hc : inp.cmdValid with
  | false => exact ⟨_, State.commandPhase_of_no_command hc, .inl rfl, rfl, rfl, rfl⟩
  | true =>
    rw [State.commandPhase_of_command hc, exec_eq]
    refine ⟨_, rfl, .inr ⟨_, rfl⟩, rfl, ?_, rfl⟩
    cases decode inp.word with
    | send b => simp [hbusy]
    | _ => rfl

/-! ### Transmission (R203) -/

/-- A transmit session that started from the registers `a`, seen `n` cycles later, before its twelfth tick: the ticks
performed are counted in `txCount`, the cycles since the last one in `bpc`. -/
structure Sending (a : Arch) (p : Params) (n : Nat) (s : State) : Prop where
  params : s.params = p
  mode : s.mode = .tx
  rxActive : s.rxActive = false
  armed : s.armed = false
  shift : s.txShift = a.txShift >>> s.txCount.toNat
  gate : s.gate = if s.txCount.toNat = 0 then a.gate else a.txShift.getLsbD (s.txCount.toNat - 1)
  slot : s.resValid = true → a.resValid = true
  ticks : s.txCount.toNat ≤ 11
  elapsed : n = s.txCount.toNat * p.bitDiv + s.bpc.toNat
  bpcRange : s.bpc.toNat < p.bitDiv

section
variable {a : Arch} {p : Params} {n : Nat} {s : State}

/-- The session as the registers that start it find it. -/
theorem Sending.start (hp : p.wellFormed = true) (hparams : s.params = p) (hregisters : s.toArch = a)
    (hm : s.mode = .tx) (hr : s.rxActive = false) (ha : s.armed = false) (hcount : s.txCount = 0)
    (hbpc : s.bpc.toNat = 0) : Sending a p 0 s := by
  subst hparams hregisters
  obtain ⟨hdiv, -⟩ := (Params.wellFormed_iff _).mp hp
  exact ⟨rfl, hm, hr, ha, by simp [hcount], by simp [hcount], id, by simp [hcount], by simp [hcount, hbpc], by omega⟩

/-- The ticks performed after `n` cycles. -/
theorem Sending.txCount_eq (h : Sending a p n s) : s.txCount.toNat = n / p.bitDiv ∧ s.bpc.toNat = n % p.bitDiv := by
  have hrange := h.bpcRange
  have hsplit : s.bpc.toNat + p.bitDiv * s.txCount.toNat = n := by rw [h.elapsed]; ring
  obtain ⟨hdiv, hmod⟩ := (Nat.div_mod_unique (by omega : 0 < p.bitDiv)).mpr ⟨hsplit, hrange⟩
  exact ⟨hdiv.symm, hmod.symm⟩

/-- What `gate` shows after `n` cycles: nothing new before the first tick, then the bit last emitted (R203). -/
theorem Sending.gate_eq (h : Sending a p n s) :
    s.gate = if n < p.bitDiv then a.gate else a.txShift.getLsbD (n / p.bitDiv - 1) := by
  have hrange := h.bpcRange
  have hfirst : n / p.bitDiv = 0 ↔ n < p.bitDiv := Nat.div_eq_zero_iff_lt (by omega)
  rw [h.gate, h.txCount_eq.1]
  simp only [hfirst]

/-- The twelfth tick comes in the cycle that completes twelve bit periods. -/
theorem Sending.last_iff (h : Sending a p n s) :
    n + 1 = 12 * p.bitDiv ↔ s.txCount = 11 ∧ s.bpc.toNat = p.bitDiv - 1 := by
  have hn := h.elapsed
  have hrange := h.bpcRange
  have hticks := h.ticks
  constructor
  · intro hlast
    have hcount : s.txCount.toNat = 11 := by
      by_contra hne
      have := Nat.mul_le_mul_right p.bitDiv (by omega : s.txCount.toNat ≤ 10)
      omega
    rw [hcount] at hn
    exact ⟨BitVec.eq_of_toNat_eq hcount, by omega⟩
  · rintro ⟨hcount, hbpc⟩
    rw [hcount, hbpc] at hn
    simp at hn
    omega

/-- Before the twelfth tick phase 1 goes one cycle on: it counts, or it performs the next tick. -/
theorem Sending.timerPhase (h : Sending a p n s) (level : Bool) (hmore : n + 1 < 12 * p.bitDiv) :
    Sending a p (n + 1) (s.timerPhase level) := by
  have hlast := mt h.last_iff.mpr (by omega)
  obtain ⟨rfl, hm, hr, harmed, hshift, hgate, hslot, hticks, hn, hrange⟩ := h
  by_cases htick : s.bpc.toNat = s.params.bitDiv - 1
  · have hne : s.txCount ≠ 11 := fun hc => hlast ⟨hc, htick⟩
    have hsucc : s.toArch.emitBit.txCount.toNat = s.txCount.toNat + 1 :=
      bitCount_succ_toNat s.txCount (by bv_omega)
    rw [State.timerPhase_of_txTick level hm hr htick, Arch.txTick_of_not_twelfth hne]
    refine ⟨rfl, hm, hr, harmed, ?_, ?_, hslot, ?_, ?_, ?_⟩
    · rw [hsucc, Arch.emitBit_txShift, hshift, BitVec.shiftRight_add]
    · rw [hsucc, Arch.emitBit_gate, hshift, if_neg (by omega), BitVec.getLsbD_ushiftRight, Nat.add_zero,
        Nat.add_sub_cancel]
    · rw [hsucc]; bv_omega
    · rw [hsucc, Nat.succ_mul]; simp; omega
    · simp; omega
  · have hsucc := bpc_succ_toNat s.bpc (by omega)
    rw [State.timerPhase_of_tx_counting level hm hr htick]
    exact ⟨rfl, hm, hr, harmed, hshift, hgate, hslot, hticks, by rw [hsucc, hn]; rfl, by rw [hsucc]; omega⟩

/-- The session reads nothing but the configuration, `bpc` and the registers of the event level, and of the result slot
only that it does not fill. -/
theorem Sending.of_same {t : State} (h : Sending a p n s) (hparams : t.params = s.params)
    (hbpc : t.bpc.toNat = s.bpc.toNat) (harch : t.toArch = s.toArch ∨ t.toArch = s.toArch.clearSlot) :
    Sending a p n t := by
  have hkept : t.mode = s.mode ∧ t.rxActive = s.rxActive ∧ t.armed = s.armed ∧ t.txShift = s.txShift ∧
      t.txCount = s.txCount ∧ t.gate = s.gate ∧ (t.resValid = true → s.resValid = true) := by
    rcases harch with he | he <;> simp [he]
  obtain ⟨hm, hr, harmed, hshift, hcount, hgate, hslot⟩ := hkept
  exact ⟨hparams.trans h.params, hm.trans h.mode, hr.trans h.rxActive, harmed.trans h.armed,
    by rw [hshift, hcount, h.shift], by rw [hgate, hcount, h.gate], h.slot ∘ hslot, by rw [hcount]; exact h.ticks,
    by rw [hcount, hbpc]; exact h.elapsed, by rw [hbpc]; exact h.bpcRange⟩

/-- No command disturbs the session (R120). -/
theorem Sending.commandPhase (h : Sending a p n s) (inp : Inputs) :
    ∃ u, s.commandPhase inp = .next u ∧ Sending a p n u := by
  have hbusy : s.sendBusy = true := by simp [Arch.sendBusy, h.mode]
  obtain ⟨u, hu, harch, hparams, hbpc, -⟩ := State.commandPhase_in_session inp hbusy
  refine ⟨u, hu, h.of_same hparams hbpc ?_⟩
  rcases harch with hsame | ⟨i, hcommand⟩
  · exact .inl hsame
  · rw [hcommand]
    exact Arch.command_in_transmit i s.s2 s.toArch h.mode

/-- Before the twelfth tick a cycle without reset goes one cycle on in the session, whatever is on the ports. -/
theorem Sending.cycle (h : Sending a p n s) {inp : Inputs} (hrst : inp.rst = false)
    (hmore : n + 1 < 12 * p.bitDiv) : ∃ t, Machine.cycle inp s = .next t ∧ Sending a p (n + 1) t := by
  have htimer := h.timerPhase s.s2 hmore
  obtain ⟨u, hu, hsending⟩ := htimer.commandPhase inp
  exact ⟨_, cycle_of_commandPhase inp s u hrst (by rw [State.edgePhase_of_disarmed _ htimer.armed, hu]),
    hsending.of_same rfl rfl (.inl rfl)⟩

/-- The cycle of the twelfth tick, without a command: the link is back in IDLE, and unless the line falls in this very
cycle on an empty slot it listens (R114, R192). -/
theorem Sending.cycle_last (h : Sending a p n s) {inp : Inputs} (hrst : inp.rst = false) (hcmd : inp.cmdValid = false)
    (hlast : n + 1 = 12 * p.bitDiv) : ∃ t, Machine.cycle inp s = .next t ∧ t.mode = .idle ∧
      t.gate = a.txShift.getLsbD 11 ∧ t.txShift = 0 ∧ t.txCount = 0 ∧ t.resValid = s.resValid ∧
      ((t.armed = true ∧ t.rxActive = false) ∨ (t.rxActive = true ∧ s.fall = true)) := by
  obtain ⟨hcount, hbpc⟩ := h.last_iff.mp hlast
  obtain ⟨rfl, hm, hr, -, hshift, -⟩ := h
  have hguard : s.txShift.getLsbD 0 = a.txShift.getLsbD 11 := by simp [hshift, hcount]
  have hempty : s.txShift >>> 1 = 0 := by
    rw [hshift, hcount, ← BitVec.shiftRight_add]
    exact BitVec.ushiftRight_eq_zero (by decide)
  have htimer : s.timerPhase s.s2 = { s with toArch := s.toArch.emitBit.endTransmit, bpc := 0 } := by
    rw [State.timerPhase_of_txTick s.s2 hm hr hbpc, Arch.txTick_of_twelfth hcount]
  refine ⟨_, cycle_of_no_command hrst hcmd, ?_⟩
  rw [State.carrierSyncPhase_toArch, State.eventPhases, htimer]
  rcases State.edgePhase_cases s.fall { s with toArch := s.toArch.emitBit.endTransmit, bpc := 0 } with
    ⟨-, he⟩ | ⟨hfall, -, -, he⟩
  · rw [he]
    exact ⟨rfl, hguard, hempty, rfl, rfl, .inl ⟨rfl, hr⟩⟩
  · rw [he]
    exact ⟨rfl, hguard, hempty, rfl, rfl, .inr ⟨rfl, hfall⟩⟩

end

/-- Before its twelfth tick a session goes on through any schedule without reset. -/
theorem Sending.cycles_schedule {a : Arch} {s : State} {ins : List Inputs} (h : Sending a s.params 0 s)
    (hrst : noReset ins) (hmore : ins.length < 12 * s.params.bitDiv) :
    ∃ t, Machine.cycles ins s = .next t ∧ Sending a s.params ins.length t := by
  refine cycles_induction (fun xs t => Sending a s.params xs.length t) ins h fun xs inp t hpre hxs => ?_
  have hlen := hpre.length_le
  simp only [List.length_append, List.length_singleton] at hlen ⊢
  exact hxs.cycle (hrst inp (hpre.subset (by simp))) (by omega)

/-- Settles O53: up to the twelfth tick by `Sending.cycles_schedule`, and the cycle of the twelfth tick on its own. -/
theorem transmissionTiming : Obligations.TransmissionTiming := by
  intro b s ins hp hm hr harmed hshift hcount hbpc hrst
  have hstart := Sending.start hp rfl rfl hm hr harmed hcount hbpc
  obtain ⟨hdiv, -⟩ := (Params.wellFormed_iff _).mp hp
  constructor
  · intro hmore
    obtain ⟨t, ht, hsending⟩ := hstart.cycles_schedule hrst hmore
    exact ⟨t, ht, hsending.mode, hsending.txCount_eq.1, hsending.txCount_eq.2, hshift ▸ hsending.gate_eq⟩
  · intro hlen hnone
    obtain ⟨xs, inp, rfl⟩ : ∃ xs inp, ins = xs ++ [inp] :=
      ⟨_, _, (List.dropLast_append_getLast (List.ne_nil_of_length_pos (by omega))).symm⟩
    rw [List.length_append, List.length_singleton] at hlen
    obtain ⟨t, ht, hsending⟩ := hstart.cycles_schedule (ins := xs) (fun i hi => hrst i (by simp [hi])) (by omega)
    obtain ⟨u, hu, hidle, hgate, hempty, hzero, -, hend⟩ :=
      hsending.cycle_last (hrst inp (by simp)) (hnone inp (by simp)) hlen
    refine ⟨u, ?_, hidle, ?_, hempty, hzero, hend.imp And.left And.left⟩
    · rw [cycles_append _ _ _ _ ht]
      simp [Machine.cycles, hu]
    · rw [hgate, hshift, frame_guard]

/-! ### Reception (R204) -/

/-- The bits that `k` ticks of a receive session sample, where `line j` is the level seen in the session's cycle `j`:
tick `i + 1` comes in the cycle that completes the settling delay and `i + 1` bit periods (R132). -/
def sampledBits (p : Params) (line : Nat → Bool) (k : Nat) : List Bool :=
  (List.range k).map fun i => !line (p.settleDiv + (i + 1) * p.bitDiv - 1)

theorem sampledBits_succ (p : Params) (line : Nat → Bool) (k : Nat) : sampledBits p line (k + 1) =
    sampledBits p line k ++ [!line (p.settleDiv + (k + 1) * p.bitDiv - 1)] := by
  simp [sampledBits, List.range_succ]

/-- The registers that an effective EDGE leaves of a link in IDLE: a session without samples, the trigger disarmed and
the slot empty (R130). -/
structure Arch.Fresh (a : Arch) : Prop where
  mode : a.mode = .idle
  rxActive : a.rxActive = true
  armed : a.armed = false
  resValid : a.resValid = false
  rxAcc : a.rxAcc = 0
  rxCount : a.rxCount = 0

/-- A receive session that started from the registers `a`, seen `n` cycles later, before its tenth tick: the registers
are `a` with the bits sampled so far; `settle` counts what is left of the settling delay, `bpc` the cycles since it
ended or since the last tick. -/
structure Receiving (a : Arch) (p : Params) (line : Nat → Bool) (n : Nat) (s : State) : Prop where
  params : s.params = p
  registers : s.toArch = a.sampleBits (sampledBits p line s.rxCount.toNat)
  ticks : s.rxCount.toNat ≤ 9
  elapsed : n + s.settle.toNat = p.settleDiv + s.rxCount.toNat * p.bitDiv + s.bpc.toNat
  bpcRange : s.bpc.toNat < p.bitDiv
  settling : 0 < s.settle.toNat → s.rxCount.toNat = 0 ∧ s.bpc.toNat = 0

section
variable {a : Arch} {p : Params} {line : Nat → Bool} {n : Nat} {s : State}

/-- The session as the EDGE that starts it leaves it. -/
theorem Receiving.start (hp : p.wellFormed = true) (hparams : s.params = p) (hregisters : s.toArch = a)
    (hcount : a.rxCount = 0) (hbpc : s.bpc.toNat = 0) (hsettle : s.settle.toNat = p.settleDiv) :
    Receiving a p line 0 s := by
  subst hparams hregisters
  obtain ⟨hdiv, -⟩ := (Params.wellFormed_iff _).mp hp
  have hzero : s.rxCount.toNat = 0 := by simp [hcount]
  exact ⟨rfl, by rw [hzero]; rfl, by omega, by rw [hzero, hbpc, hsettle]; omega, by omega, fun _ => ⟨hzero, hbpc⟩⟩

/-- Samples leave the owner, the trigger and the slot of the session as they were. -/
theorem Receiving.kept (h : Receiving a p line n s) :
    s.mode = a.mode ∧ s.rxActive = a.rxActive ∧ s.armed = a.armed ∧ s.resValid = a.resValid ∧ s.gate = a.gate := by
  have hend := Arch.sampleBits_endReceive (sampledBits p line s.rxCount.toNat) a
  rw [h.registers]
  exact ⟨(congrArg Arch.mode hend :), Arch.sampleBits_rxActive _ _, (congrArg Arch.armed hend :),
    (congrArg Arch.resValid hend :), (congrArg Arch.gate hend :)⟩

/-- The ticks performed after `n` cycles: none in the settling delay, then one in each bit period (R204). -/
theorem Receiving.rxCount_eq (h : Receiving a p line n s) : s.rxCount.toNat = (n - p.settleDiv) / p.bitDiv := by
  have hn := h.elapsed
  have hrange := h.bpcRange
  refine (Nat.div_eq_of_lt_le ?_ ?_).symm
  · by_cases hs : 0 < s.settle.toNat
    · simp [h.settling hs]
    · omega
  · rw [Nat.succ_mul]
    omega

/-- The tenth tick comes in the cycle that completes the settling delay and ten bit periods. -/
theorem Receiving.at_last (h : Receiving a p line n s) (hlast : n + 1 = p.settleDiv + 10 * p.bitDiv) :
    s.rxCount.toNat = 9 ∧ s.settle.toNat = 0 ∧ s.bpc.toNat = p.bitDiv - 1 := by
  have hn := h.elapsed
  have hrange := h.bpcRange
  have hticks := h.ticks
  have hcount : s.rxCount.toNat = 9 := by
    by_contra hne
    have := Nat.mul_le_mul_right p.bitDiv (by omega : s.rxCount.toNat ≤ 8)
    omega
  rw [hcount] at hn
  exact ⟨hcount, by omega, by omega⟩

/-- A tick samples the level seen in its cycle, which is the one that completes a bit period. -/
theorem Receiving.sample (h : Receiving a p line n s) (hline : s.s2 = line n) (hsettled : s.settle.toNat = 0)
    (htick : s.bpc.toNat = p.bitDiv - 1) :
    s.toArch.sampleBit s.s2 = a.sampleBits (sampledBits p line (s.rxCount.toNat + 1)) := by
  have hn := h.elapsed
  have hrange := h.bpcRange
  have hcycle : n = p.settleDiv + (s.rxCount.toNat + 1) * p.bitDiv - 1 := by rw [Nat.succ_mul]; omega
  rw [sampledBits_succ, Arch.sampleBits_append, ← h.registers, ← hcycle, ← hline, Arch.sampleBits_cons, Bool.not_not,
    Arch.sampleBits_nil]

/-- Before the tenth tick phase 1 goes one cycle on: it waits, counts, or performs the next tick. -/
theorem Receiving.timerPhase (h : Receiving a p line n s) (ha : a.Fresh) (hline : s.s2 = line n)
    (hmore : n + 1 < p.settleDiv + 10 * p.bitDiv) : Receiving a p line (n + 1) (s.timerPhase s.s2) := by
  obtain ⟨hm, hr, -⟩ := h.kept
  rw [ha.mode] at hm
  rw [ha.rxActive] at hr
  have hsample := h.sample hline
  obtain ⟨rfl, hregisters, hticks, hn, hrange, hsettling⟩ := h
  by_cases hs : 0 < s.settle.toNat
  · have hpred := counter_pred_toNat s.settle hs
    have hnext : n + 1 + (s.settle - 1).toNat =
        s.params.settleDiv + s.rxCount.toNat * s.params.bitDiv + s.bpc.toNat := by omega
    rw [State.timerPhase_of_settling s.s2 hr hs]
    exact ⟨rfl, hregisters, hticks, hnext, hrange, fun _ => hsettling hs⟩
  · have hsettled : s.settle.toNat = 0 := by omega
    by_cases htick : s.bpc.toNat = s.params.bitDiv - 1
    · have hcount : s.rxCount.toNat ≤ 8 := by
        by_contra hc
        have hnine : s.rxCount.toNat = 9 := by omega
        rw [hnine] at hn
        omega
      have hsucc : (s.toArch.sampleBit s.s2).rxCount.toNat = s.rxCount.toNat + 1 :=
        bitCount_succ_toNat s.rxCount (by bv_omega)
      have hne : s.rxCount ≠ 9 := by bv_omega
      rw [State.timerPhase_of_rxTick s.s2 (by simp [hm]) hr hsettled htick, Arch.rxTick_of_not_tenth s.s2 hne]
      refine ⟨rfl, ?_, ?_, ?_, ?_, fun hp => absurd hp hs⟩
      · rw [hsucc]; exact hsample hsettled htick
      · rw [hsucc]; omega
      · rw [hsucc, Nat.succ_mul]; simp; omega
      · simp; omega
    · have hsucc := bpc_succ_toNat s.bpc (by omega)
      have hnext : n + 1 + s.settle.toNat =
          s.params.settleDiv + s.rxCount.toNat * s.params.bitDiv + (s.bpc + 1).toNat := by omega
      rw [State.timerPhase_of_rx_counting s.s2 hr hsettled htick]
      exact ⟨rfl, hregisters, hticks, hnext, by rw [hsucc]; omega, fun hp => absurd hp hs⟩

/-- The session reads nothing but the configuration, two counters and the registers of the event level. -/
theorem Receiving.of_same {t : State} (h : Receiving a p line n s) (hparams : t.params = s.params)
    (hbpc : t.bpc.toNat = s.bpc.toNat) (hsettle : t.settle.toNat = s.settle.toNat) (harch : t.toArch = s.toArch) :
    Receiving a p line n t :=
  ⟨hparams.trans h.params, by rw [harch]; exact h.registers, by rw [harch]; exact h.ticks,
    by rw [harch, hbpc, hsettle]; exact h.elapsed, by rw [hbpc]; exact h.bpcRange,
    by rw [harch, hbpc, hsettle]; exact h.settling⟩

/-- No command disturbs the session (R141). -/
theorem Receiving.commandPhase (h : Receiving a p line n s) (ha : a.Fresh) (inp : Inputs) :
    ∃ u, s.commandPhase inp = .next u ∧ Receiving a p line n u := by
  have hr : s.rxActive = true := h.kept.2.1.trans ha.rxActive
  have hbusy : s.sendBusy = true := by simp [Arch.sendBusy, hr]
  obtain ⟨u, hu, harch, hparams, hbpc, hsettle⟩ := State.commandPhase_in_session inp hbusy
  refine ⟨u, hu, h.of_same hparams hbpc hsettle ?_⟩
  rcases harch with hsame | ⟨i, hcommand⟩
  · exact hsame
  · exact hcommand.trans (Arch.command_in_receive i s.s2 s.toArch hr)

/-- Before the tenth tick a cycle without reset goes one cycle on in the session, whatever is on the ports. -/
theorem Receiving.cycle (h : Receiving a p line n s) (ha : a.Fresh) (hline : s.s2 = line n) {inp : Inputs}
    (hrst : inp.rst = false) (hmore : n + 1 < p.settleDiv + 10 * p.bitDiv) :
    ∃ t, Machine.cycle inp s = .next t ∧ Receiving a p line (n + 1) t := by
  have htimer := h.timerPhase ha hline hmore
  have harmed : (s.timerPhase s.s2).armed = false := htimer.kept.2.2.1.trans ha.armed
  obtain ⟨u, hu, hreceiving⟩ := htimer.commandPhase ha inp
  exact ⟨_, cycle_of_commandPhase inp s u hrst (by rw [State.edgePhase_of_disarmed _ harmed, hu]),
    hreceiving.of_same rfl rfl rfl rfl⟩

/-- The cycle of the tenth tick, without a command: the byte is delivered, or the frame is rejected and, unless the line
falls in this very cycle, the link listens (R134 to R136, R192). -/
theorem Receiving.cycle_last (h : Receiving a p line n s) (ha : a.Fresh) (hline : s.s2 = line n) {inp : Inputs}
    (hrst : inp.rst = false) (hcmd : inp.cmdValid = false) (hlast : n + 1 = p.settleDiv + 10 * p.bitDiv) {w : RxWord}
    (hw : (List.range 10).map w.getLsbD = sampledBits p line 10) : ∃ t, Machine.cycle inp s = .next t ∧
      (∀ c, checkFrame w = .commit c → t.toArch = a.endReceive.fillSlot c) ∧
      ((∀ c, checkFrame w ≠ .commit c) →
        t.toArch = a.endReceive.reject ∨ t.toArch = a.endReceive.reject.startReceive) := by
  obtain ⟨hm, hr, -⟩ := h.kept
  rw [ha.mode] at hm
  rw [ha.rxActive] at hr
  obtain ⟨hcount, hsettled, hbpc⟩ := h.at_last hlast
  have hsample := h.sample hline hsettled hbpc
  rw [hcount, ← hw] at hsample
  have hacc : (s.toArch.sampleBit s.s2).rxAcc = w := by
    rw [hsample]; exact Arch.sampleBits_rxAcc_of_word w ha.rxAcc ha.rxCount
  have hend : (s.toArch.sampleBit s.s2).endReceive = a.endReceive := by
    rw [hsample]; exact Arch.sampleBits_endReceive _ a
  have htimer : s.timerPhase s.s2 = { s with toArch := (s.toArch.sampleBit s.s2).completeReceive, bpc := 0 } := by
    rw [State.timerPhase_of_rxTick s.s2 (by simp [hm]) hr hsettled (by rw [hbpc, h.params]),
      Arch.rxTick_of_tenth s.s2 (BitVec.eq_of_toNat_eq hcount)]
  refine ⟨_, cycle_of_no_command hrst hcmd, fun c hc => ?_, fun hc => ?_⟩
  · rw [State.carrierSyncPhase_toArch, State.eventPhases, htimer,
      Arch.completeReceive_of_commit (a := s.toArch.sampleBit s.s2) (hacc ▸ hc), hend,
      State.edgePhase_of_full_slot s.fall rfl]
  · rw [State.carrierSyncPhase_toArch, State.eventPhases, htimer,
      Arch.completeReceive_of_reject (a := s.toArch.sampleBit s.s2) (hacc ▸ hc), hend]
    rcases State.edgePhase_cases s.fall { s with toArch := a.endReceive.reject, bpc := 0 } with ⟨-, he⟩ | ⟨-, -, -, he⟩
    · exact .inl (by rw [he])
    · exact .inr (by rw [he])

end

/-- The records already taken fix the levels seen up to two cycles later (R193). -/
theorem lineSeen_of_record (s : State) (xs : List Inputs) (inp : Inputs) (ys : List Inputs) :
    lineSeen s (xs ++ [inp] ++ ys) (xs.length + 2) = inp.irRx := by
  simp [lineSeen]

/-- Before its tenth tick a session goes on through any schedule without reset, and sees the levels that the schedule
brings: those of `s1` and `s2` are the next two. -/
theorem Receiving.cycles_schedule {a : Arch} {s : State} {xs ys : List Inputs}
    (h : Receiving a s.params (lineSeen s (xs ++ ys)) 0 s) (ha : a.Fresh) (hrst : noReset xs)
    (hmore : xs.length < s.params.settleDiv + 10 * s.params.bitDiv) :
    ∃ t, Machine.cycles xs s = .next t ∧ Receiving a s.params (lineSeen s (xs ++ ys)) xs.length t ∧
      t.s2 = lineSeen s (xs ++ ys) xs.length ∧ t.s1 = lineSeen s (xs ++ ys) (xs.length + 1) := by
  refine cycles_induction (fun zs t => Receiving a s.params (lineSeen s (xs ++ ys)) zs.length t ∧
    t.s2 = lineSeen s (xs ++ ys) zs.length ∧ t.s1 = lineSeen s (xs ++ ys) (zs.length + 1)) xs ⟨h, rfl, rfl⟩ ?_
  rintro zs inp t hpre ⟨hreceiving, hs2, hs1⟩
  have hrst' := hrst inp (hpre.subset (by simp))
  have hlen := hpre.length_le
  simp only [List.length_append, List.length_singleton] at hlen ⊢
  obtain ⟨u, hu, hnext⟩ := hreceiving.cycle ha hs2 hrst' (by omega)
  obtain ⟨-, hu1, hu2, -⟩ := cycle_line hrst' hu
  obtain ⟨rest, rfl⟩ := hpre
  refine ⟨u, hu, hnext, hu2.trans hs1, hu1.trans ?_⟩
  rw [List.append_assoc _ rest ys, lineSeen_of_record]

/-- Settles O54: up to the tenth tick by `Receiving.cycles_schedule`, and the cycle of the tenth tick on its own. -/
theorem receptionTiming : Obligations.ReceptionTiming := by
  intro s ins w hp hm hr harmed hv hacc hcount hbpc hsettle hrst
  have hstart (line : Nat → Bool) : Receiving s.toArch s.params line 0 s :=
    Receiving.start hp rfl rfl hcount hbpc hsettle
  have ha : s.toArch.Fresh := ⟨hm, hr, harmed, hv, hacc, hcount⟩
  obtain ⟨hdiv, -⟩ := (Params.wellFormed_iff _).mp hp
  constructor
  · intro hmore
    obtain ⟨t, ht, hreceiving, -⟩ := (hstart (lineSeen s (ins ++ []))).cycles_schedule ha hrst hmore
    obtain ⟨-, hactive, -, hempty, -⟩ := hreceiving.kept
    exact ⟨t, ht, hactive.trans hr, hempty.trans hv, hreceiving.rxCount_eq⟩
  · intro hlen hnone hw
    obtain ⟨xs, inp, rfl⟩ : ∃ xs inp, ins = xs ++ [inp] :=
      ⟨_, _, (List.dropLast_append_getLast (List.ne_nil_of_length_pos (by omega))).symm⟩
    rw [List.length_append, List.length_singleton] at hlen
    have hword : (List.range 10).map w.getLsbD = sampledBits s.params (lineSeen s (xs ++ [inp])) 10 :=
      List.map_congr_left fun k hk => hw k (List.mem_range.mp hk)
    obtain ⟨t, ht, hreceiving, hs2, -⟩ :=
      (hstart (lineSeen s (xs ++ [inp]))).cycles_schedule ha (fun i hi => hrst i (by simp [hi])) (by omega)
    obtain ⟨u, hu, hcommit, hreject⟩ :=
      hreceiving.cycle_last ha hs2 (hrst inp (by simp)) (hnone inp (by simp)) hlen hword
    have hidle : u.mode = .idle := by
      by_cases hc : ∃ c, checkFrame w = .commit c
      · obtain ⟨c, hc⟩ := hc
        rw [hcommit c hc]; exact hm
      · rcases hreject (not_exists.mp hc) with he | he <;> rw [he] <;> exact hm
    refine ⟨u, ?_, hidle, fun c hc => ?_, fun hc => ?_⟩
    · rw [cycles_append _ _ _ _ ht]
      simp [Machine.cycles, hu]
    · rw [hcommit c hc]
      exact ⟨rfl, harmed, rfl, rfl⟩
    · rcases hreject hc with he | he <;> rw [he]
      · exact ⟨rfl, .inl ⟨rfl, rfl⟩⟩
      · exact ⟨rfl, .inr ⟨rfl, rfl⟩⟩

end Sys2Proof.Machine

/-! PROOFS. Two links over the ideal channel (60_exceptions.md R237): link A sends a byte, link B receives it, and each
is followed on its own (43_cycle_level.md R205, 70_reset_and_hazards.md R273). -/

namespace Sys2Proof.Machine

/-! ### Cycles of a pair -/

/-- A pair's cycle is a cycle of each link, on the complement of the other's gate. -/
theorem pairCycle_of_cycle {ia ib : Inputs} {x : Pair} {a b : State}
    (ha : cycle { ia with irRx := !x.linkB.gate } x.linkA = .next a)
    (hb : cycle { ib with irRx := !x.linkA.gate } x.linkB = .next b) :
    pairCycle ia ib x = .next { linkA := a, linkB := b } := by
  simp only [pairCycle, ha, hb]

theorem pairCycles_append {xs ys : List (Inputs × Inputs)} {x y : Pair} (h : pairCycles xs x = .next y) :
    pairCycles (xs ++ ys) x = pairCycles ys y := by
  induction xs generalizing x with
  | nil => cases h; rfl
  | cons io xs ih =>
    simp only [pairCycles, List.cons_append] at h ⊢
    split at h
    · exact ih h
    · cases h
    · cases h

/-- A longer transfer is a shorter one and a silent cycle of both hosts. -/
theorem sendSchedule_succ (b : Byte) (n : Nat) : sendSchedule b (n + 2) =
    sendSchedule b (n + 1) ++ [(Inputs.silent true, Inputs.silent true)] := by
  simp [sendSchedule, List.replicate_succ']

/-! ### A line that carries a signal -/

/-- After `n` cycles of a line that shows, inverted, the signal `g` of the cycle before, the synchroniser holds its last
three values (R193); before it began the line was idle. -/
structure OnLine (g : Nat → Bool) (n : Nat) (s : State) : Prop where
  s1 : s.s1 = !g (n - 1)
  s2 : s.s2 = !g (n - 2)
  prev : s.prev = !g (n - 3)

theorem OnLine.cycle {g : Nat → Bool} {n : Nat} {s t : State} {inp : Inputs} (h : OnLine g n s)
    (hrst : inp.rst = false) (hline : inp.irRx = !g n) (hc : Machine.cycle inp s = .next t) : OnLine g (n + 1) t := by
  obtain ⟨-, h1, h2, h3⟩ := cycle_line hrst hc
  exact ⟨h1.trans hline, h2.trans h.s1, h3.trans h.s2⟩

/-- The block sees the line fall two cycles after the signal rose (R193, R194). -/
theorem OnLine.fall_eq {g : Nat → Bool} {n : Nat} {s : State} (h : OnLine g n s) :
    s.fall = (!g (n - 3) && g (n - 2)) := by
  simp [State.fall, h.prev, h.s2]

/-! ### The sender -/

/-- Link A's gate, `n` cycles after SEND: the bits of the frame in the bit periods after their ticks (R203). -/
def senderGate (p : Params) (b : Byte) (n : Nat) : Bool :=
  if n < p.bitDiv then false else (frame b).getLsbD (n / p.bitDiv - 1)

/-- Registers that meet the invariants with nothing going on and nothing pending are those of reset. -/
theorem Arch.Inv.eq_reset {a : Arch} (h : a.Inv) (hm : a.mode = .idle) (hr : a.rxActive = false)
    (hv : a.resValid = false) : a = Arch.reset := by
  obtain ⟨hgate, harmed, ⟨hshift, hcount⟩, ⟨hacc, hrx⟩, hdata⟩ := (Arch.inv_iff_of_listening hm hr).mp h
  cases a
  simp_all [Arch.reset]

/-- The registers of link A after the SEND of a link in reset. -/
def Arch.sender (b : Byte) : Arch := Arch.reset.loadFrame b

/-- Link A, `n` cycles after the cycle of SEND: twelve bit periods of transmission, then at rest as after reset. Its
line is idle throughout. -/
structure SenderAt (p : Params) (b : Byte) (n : Nat) (s : State) : Prop where
  inv : s.Inv
  params : s.params = p
  line : OnLine (fun _ => false) n s
  sending : n < 12 * p.bitDiv → Sending (Arch.sender b) p n s
  done : 12 * p.bitDiv ≤ n → s.toArch = Arch.reset

/-- Link B, `n` cycles after the cycle of link A's SEND: listening till the start bit has come through the synchroniser,
then receiving, then at rest with the byte in the slot. -/
structure ReceiverAt (p : Params) (b : Byte) (n : Nat) (s : State) : Prop where
  params : s.params = p
  line : OnLine (senderGate p b) n s
  listening : n < p.bitDiv + 3 → s.toArch = Arch.reset
  receiving : ∀ k, n = p.bitDiv + 3 + k → k < p.settleDiv + 10 * p.bitDiv →
    Receiving Arch.reset.startReceive p (fun j => !senderGate p b (p.bitDiv + 1 + j)) k s
  delivered : p.bitDiv + 3 + (p.settleDiv + 10 * p.bitDiv) ≤ n →
    s.toArch = { Arch.reset with armed := false, resValid := true, resData := b }

section
variable {p : Params} {b : Byte} {n : Nat} {s : State}

/-- The sender's gate is off before the first tick. -/
theorem senderGate_of_lt (hn : n < p.bitDiv) : senderGate p b n = false := if_pos hn

/-- In bit period `k + 1` after SEND the gate shows bit `k` of the frame (R203). -/
theorem senderGate_of_tick {k j : Nat} (hj : j < p.bitDiv) :
    senderGate p b ((k + 1) * p.bitDiv + j) = (frame b).getLsbD k := by
  have hperiod : ((k + 1) * p.bitDiv + j) / p.bitDiv = k + 1 := by
    rw [Nat.mul_comm, Nat.mul_add_div (by omega), Nat.div_eq_of_lt hj, Nat.add_zero]
  have hticked : ¬ (k + 1) * p.bitDiv + j < p.bitDiv := by rw [Nat.succ_mul]; omega
  rw [senderGate, if_neg hticked, hperiod, Nat.add_sub_cancel]

/-- From the twelfth tick on, the guard bit's, the gate is off. -/
theorem senderGate_of_end (hdiv : 0 < p.bitDiv) (hn : 12 * p.bitDiv ≤ n) : senderGate p b n = false := by
  have hticks : 12 ≤ n / p.bitDiv := (Nat.le_div_iff_mul_le hdiv).mpr hn
  rw [senderGate, if_neg (by omega)]
  by_cases hguard : n / p.bitDiv = 12
  · rw [hguard]; exact frame_guard b
  · exact BitVec.getLsbD_of_ge _ _ (by omega)

/-- The gate that link B's line carries is the frame. -/
theorem SenderAt.gate_eq (h : SenderAt p b n s) : s.gate = senderGate p b n := by
  obtain ⟨hdiv, -⟩ := (Params.wellFormed_iff _).mp (h.params ▸ h.inv.legal)
  by_cases hn : n < 12 * p.bitDiv
  · exact (h.sending hn).gate_eq
  · rw [h.done (by omega), senderGate_of_end (by omega) (by omega)]
    rfl

/-- Link B never drives the emitter. -/
theorem ReceiverAt.gate_eq (h : ReceiverAt p b n s) : s.gate = false := by
  by_cases hl : n < p.bitDiv + 3
  · rw [h.listening hl]; rfl
  · by_cases hr : n < p.bitDiv + 3 + (p.settleDiv + 10 * p.bitDiv)
    · obtain ⟨k, rfl⟩ := Nat.exists_eq_add_of_le (by omega : p.bitDiv + 3 ≤ n)
      exact (h.receiving k rfl (by omega)).kept.2.2.2.2
    · exact congrArg Arch.gate (h.delivered (by omega))

/-- A silent cycle of link A's host. -/
theorem SenderAt.cycle (h : SenderAt p b n s) :
    ∃ t, Machine.cycle (Inputs.silent true) s = .next t ∧ SenderAt p b (n + 1) t := by
  obtain ⟨t, ht⟩ := cycle_next (Inputs.silent true) s rfl
  obtain ⟨hinv, hparams⟩ := h.inv.cycle ht
  have hnofall : s.fall = false := h.line.fall_eq
  refine ⟨t, ht, hinv, hparams.trans h.params, h.line.cycle rfl rfl ht, fun hn => ?_, fun hn => ?_⟩
  · obtain ⟨u, hu, hsending⟩ := (h.sending (by omega)).cycle (inp := Inputs.silent true) rfl hn
    cases ht.symm.trans hu
    exact hsending
  · by_cases hlast : n + 1 = 12 * p.bitDiv
    · have hsending := h.sending (by omega)
      have hempty : s.resValid = false := by simpa [Arch.sender, Arch.reset] using hsending.slot
      obtain ⟨u, hu, hidle, -, -, -, hslot, hend⟩ :=
        hsending.cycle_last (inp := Inputs.silent true) rfl rfl hlast
      cases ht.symm.trans hu
      simp only [hnofall, Bool.false_eq_true, and_false, or_false] at hend
      exact hinv.arch.eq_reset hidle hend.2 (hslot.trans hempty)
    · have hdone := h.done (by omega)
      obtain ⟨u, hu, hkeep⟩ := cycle_quiet (s := s) (inp := Inputs.silent true) (by simp [hdone, Arch.reset])
        (by simp [hdone, Arch.reset]) (.inl hnofall) rfl rfl
      cases ht.symm.trans hu
      exact hkeep.trans hdone

/-- The levels that link B samples are those of the frame's bits 1 to 10: its EDGE comes three cycles after the start
bit, and the settling delay is shorter than a bit period (R132, R204). -/
theorem sampledBits_of_sender (hsettle : p.settleDiv < p.bitDiv) :
    (List.range 10).map ((frame b).extractLsb' 1 10).getLsbD =
      sampledBits p (fun j => !senderGate p b (p.bitDiv + 1 + j)) 10 := by
  refine List.map_congr_left fun k hk => ?_
  have hcycle : p.bitDiv + 1 + (p.settleDiv + (k + 1) * p.bitDiv - 1) = (k + 1 + 1) * p.bitDiv + p.settleDiv := by
    rw [Nat.succ_mul (k + 1), Nat.succ_mul k]
    omega
  have hlevel := senderGate_of_tick (b := b) (k := k + 1) hsettle
  rw [← hcycle] at hlevel
  simp [hlevel, List.mem_range.mp hk, Nat.add_comm]

/-- Every cycle of link B moves link A's gate on through the synchroniser. -/
theorem ReceiverAt.line_of_cycle (h : ReceiverAt p b n s) {t : State}
    (ht : Machine.cycle (Inputs.silent (!senderGate p b n)) s = .next t) :
    t.params = p ∧ OnLine (senderGate p b) (n + 1) t :=
  ⟨(cycle_line rfl ht).1.trans h.params, h.line.cycle rfl rfl ht⟩

/-- Till the start bit has come through the synchroniser link B listens to an idle line. -/
theorem ReceiverAt.cycle_listening (hp : p.wellFormed = true) (h : ReceiverAt p b n s) (hn : n < p.bitDiv + 2) :
    ∃ t, Machine.cycle (Inputs.silent (!senderGate p b n)) s = .next t ∧ ReceiverAt p b (n + 1) t := by
  obtain ⟨hdiv, -⟩ := (Params.wellFormed_iff p).mp hp
  have hreset := h.listening (by omega)
  have hquiet : s.fall = false := by
    rw [h.line.fall_eq, senderGate_of_lt (n := n - 2) (by omega), Bool.and_false]
  obtain ⟨t, ht, hkeep⟩ := cycle_quiet (s := s) (inp := Inputs.silent (!senderGate p b n))
    (by simp [hreset, Arch.reset]) (by simp [hreset, Arch.reset]) (.inl hquiet) rfl rfl
  obtain ⟨hparams, hline⟩ := h.line_of_cycle ht
  exact ⟨t, ht, hparams, hline, fun _ => hkeep.trans hreset, by omega, by omega⟩

/-- The start bit is the line's first fall, and an EDGE. -/
theorem ReceiverAt.cycle_edge (hp : p.wellFormed = true) (h : ReceiverAt p b n s) (hn : n = p.bitDiv + 2) :
    ∃ t, Machine.cycle (Inputs.silent (!senderGate p b n)) s = .next t ∧ ReceiverAt p b (n + 1) t := by
  obtain ⟨hdiv, -⟩ := (Params.wellFormed_iff p).mp hp
  have hreset := h.listening (by omega)
  have hfall : s.fall = true := by
    have hbefore := senderGate_of_lt (p := p) (b := b) (n := p.bitDiv - 1) (by omega)
    have hbit := senderGate_of_tick (p := p) (b := b) (k := 0) (j := 0) (by omega)
    rw [Nat.zero_add, Nat.one_mul, Nat.add_zero, frame_start] at hbit
    rw [h.line.fall_eq, hn, show p.bitDiv + 2 - 3 = p.bitDiv - 1 by omega, hbefore, Nat.add_sub_cancel, hbit]
    rfl
  obtain ⟨t, ht, harch, hbpc, hload⟩ := cycle_effective_edge (s := s) (inp := Inputs.silent (!senderGate p b n))
    (by simp [hreset, Arch.reset]) (by simp [hreset, Arch.reset]) hfall (by simp [hreset, Arch.reset])
    (by simp [hreset, Arch.reset]) rfl rfl
  obtain ⟨hparams, hline⟩ := h.line_of_cycle ht
  refine ⟨t, ht, hparams, hline, by omega, fun k hk _ => ?_, by omega⟩
  obtain rfl : k = 0 := by omega
  exact Receiving.start hp hparams (by rw [harch, hreset]) rfl hbpc (by rw [hload, h.params])

/-- In the session link B samples the frame, and the tenth tick delivers the byte. -/
theorem ReceiverAt.cycle_receiving (hp : p.wellFormed = true) (h : ReceiverAt p b n s) {k : Nat}
    (hn : n = p.bitDiv + 3 + k) (hk : k < p.settleDiv + 10 * p.bitDiv) :
    ∃ t, Machine.cycle (Inputs.silent (!senderGate p b n)) s = .next t ∧ ReceiverAt p b (n + 1) t := by
  obtain ⟨hdiv, hsettle, -⟩ := (Params.wellFormed_iff p).mp hp
  have hfresh : Arch.reset.startReceive.Fresh := ⟨rfl, rfl, rfl, rfl, rfl, rfl⟩
  have hseen : s.s2 = !senderGate p b (p.bitDiv + 1 + k) := by
    rw [h.line.s2, show n - 2 = p.bitDiv + 1 + k by omega]
  have hsession := h.receiving k hn hk
  by_cases hlast : k + 1 = p.settleDiv + 10 * p.bitDiv
  · obtain ⟨t, ht, hcommit, -⟩ := hsession.cycle_last hfresh hseen (inp := Inputs.silent (!senderGate p b n)) rfl rfl
      hlast (sampledBits_of_sender hsettle)
    obtain ⟨hparams, hline⟩ := h.line_of_cycle ht
    have hbyte := hcommit b ((acceptedWordsAreTheFrames.2 _ b).mpr rfl)
    exact ⟨t, ht, hparams, hline, by omega, by omega, fun _ => hbyte⟩
  · obtain ⟨t, ht, hnext⟩ := hsession.cycle hfresh hseen (inp := Inputs.silent (!senderGate p b n)) rfl (by omega)
    obtain ⟨hparams, hline⟩ := h.line_of_cycle ht
    refine ⟨t, ht, hparams, hline, by omega, fun j hj _ => ?_, by omega⟩
    obtain rfl : j = k + 1 := by omega
    exact hnext

/-- With the byte in the slot and the trigger disarmed link B holds (20_memory.md R74). -/
theorem ReceiverAt.cycle_delivered (h : ReceiverAt p b n s)
    (hn : p.bitDiv + 3 + (p.settleDiv + 10 * p.bitDiv) ≤ n) :
    ∃ t, Machine.cycle (Inputs.silent (!senderGate p b n)) s = .next t ∧ ReceiverAt p b (n + 1) t := by
  have hbyte := h.delivered hn
  obtain ⟨t, ht, hkeep⟩ := cycle_quiet (s := s) (inp := Inputs.silent (!senderGate p b n))
    (by simp [hbyte, Arch.reset]) (by simp [hbyte, Arch.reset]) (.inr (by simp [hbyte])) rfl rfl
  obtain ⟨hparams, hline⟩ := h.line_of_cycle ht
  exact ⟨t, ht, hparams, hline, by omega, by omega, fun _ => hkeep.trans hbyte⟩

/-- A cycle of link B, its line showing link A's gate. -/
theorem ReceiverAt.cycle (hp : p.wellFormed = true) (h : ReceiverAt p b n s) :
    ∃ t, Machine.cycle (Inputs.silent (!senderGate p b n)) s = .next t ∧ ReceiverAt p b (n + 1) t := by
  rcases Nat.lt_or_ge n (p.bitDiv + 3) with hn | hn
  · by_cases hedge : n = p.bitDiv + 2
    · exact h.cycle_edge hp hedge
    · exact h.cycle_listening hp (by omega)
  · obtain ⟨k, hk⟩ := Nat.exists_eq_add_of_le hn
    by_cases hr : k < p.settleDiv + 10 * p.bitDiv
    · exact h.cycle_receiving hp hk hr
    · exact h.cycle_delivered (by omega)

end

/-! ### The whole transfer (R205, R273) -/

/-- The ports of link A in the first cycle of a transfer: SEND `b`, and an idle line. -/
def Inputs.sends (b : Byte) : Inputs := { rst := false, cmdValid := true, cmdOp := 0, cmdArg := b, irRx := true }

section
variable {p : Params} (b : Byte)

/-- The cycle of SEND, on a link in reset. -/
theorem SenderAt.start (hp : p.wellFormed = true) :
    ∃ t, Machine.cycle (Inputs.sends b) (State.resetAt p) = .next t ∧ SenderAt p b 0 t := by
  obtain ⟨hdiv, -⟩ := (Params.wellFormed_iff p).mp hp
  have hphases : (State.resetAt p).eventPhases = State.resetAt p := by
    rw [State.eventPhases, State.timerPhase_of_no_session _ (by simp [Arch.reset]) rfl]
    exact State.edgePhase_of_no_fall _
  have hdecode : decode (Inputs.sends b).word = .send b := decode_encode (.send b)
  have hsend := (sendLoadsFrameOrIsBusy b (State.resetAt p)).2.2.1 rfl rfl
  have hcommand := (State.commandPhase_of_command (s := State.resetAt p) (inp := Inputs.sends b) rfl).trans
    ((congrArg (exec · _) hdecode).trans hsend)
  have ht := cycle_of_commandPhase (Inputs.sends b) (State.resetAt p) _ rfl
    ((congrArg (State.commandPhase (Inputs.sends b)) hphases).trans hcommand)
  exact ⟨_, ht, ((State.resetAt_inv p hp).cycle ht).1, rfl, ⟨rfl, rfl, rfl⟩,
    fun _ => Sending.start hp rfl rfl rfl rfl rfl rfl BitVec.toNat_zero, by omega⟩

/-- The same cycle on the other link, which sees an idle line. -/
theorem ReceiverAt.start (hp : p.wellFormed = true) :
    ∃ t, Machine.cycle (Inputs.silent true) (State.resetAt p) = .next t ∧ ReceiverAt p b 0 t := by
  obtain ⟨hdiv, -⟩ := (Params.wellFormed_iff p).mp hp
  have hoff := senderGate_of_lt (p := p) (b := b) (n := 0) (by omega)
  obtain ⟨t, ht, hkeep⟩ := cycle_quiet (s := State.resetAt p) (inp := Inputs.silent true) (by simp [Arch.reset]) rfl
    (.inl rfl) rfl rfl
  obtain ⟨hparams, h1, h2, h3⟩ := cycle_line (inp := Inputs.silent true) rfl ht
  exact ⟨t, ht, hparams, ⟨by rw [h1, hoff]; rfl, by rw [h2, hoff]; rfl, by rw [h3, hoff]; rfl⟩, fun _ => hkeep,
    by omega, by omega⟩

/-- The two links of a transfer, `n` cycles after the cycle of SEND. -/
theorem pairCycles_sendSchedule (hp : p.wellFormed = true) (n : Nat) : ∃ x, pairCycles (sendSchedule b (n + 1))
    { linkA := State.resetAt p, linkB := State.resetAt p } = .next x ∧
    SenderAt p b n x.linkA ∧ ReceiverAt p b n x.linkB := by
  induction n with
  | zero =>
    obtain ⟨sender, hs, hsender⟩ := SenderAt.start b hp
    obtain ⟨receiver, hr, hreceiver⟩ := ReceiverAt.start b hp
    have hpair : pairCycle (Inputs.sends b) (Inputs.silent true)
        { linkA := State.resetAt p, linkB := State.resetAt p } = .next { linkA := sender, linkB := receiver } :=
      pairCycle_of_cycle hs hr
    exact ⟨_, by rw [sendSchedule, pairCycles, ← Inputs.sends, hpair]; rfl, hsender, hreceiver⟩
  | succ n ih =>
    obtain ⟨x, hx, hsender, hreceiver⟩ := ih
    obtain ⟨sender, hs, hsender'⟩ := hsender.cycle
    obtain ⟨receiver, hr, hreceiver'⟩ := hreceiver.cycle hp
    have hpair : pairCycle (Inputs.silent true) (Inputs.silent true) x =
        .next { linkA := sender, linkB := receiver } := by
      refine pairCycle_of_cycle ?_ ?_
      · rw [hreceiver.gate_eq]; exact hs
      · rw [hsender.gate_eq]; exact hr
    exact ⟨_, by rw [sendSchedule_succ, pairCycles_append hx, pairCycles, hpair]; rfl, hsender', hreceiver'⟩

end

/-- Settles O55: the two links of `pairCycles_sendSchedule` at the four moments. -/
theorem endToEndDelivery : Obligations.EndToEndDelivery := by
  intro p b hp
  obtain ⟨hdiv, hsettle, -⟩ := (Params.wellFormed_iff p).mp hp
  have hat (m : Nat) (hm : 0 < m) : ∃ x, pairCycles (sendSchedule b m)
      { linkA := State.resetAt p, linkB := State.resetAt p } = .next x ∧
      SenderAt p b (m - 1) x.linkA ∧ ReceiverAt p b (m - 1) x.linkB := by
    simpa only [Nat.sub_add_cancel hm] using pairCycles_sendSchedule b hp (m - 1)
  refine ⟨?_, ?_, ?_, ?_⟩
  · obtain ⟨x, hx, -, hreceiver⟩ := hat (11 * p.bitDiv + p.settleDiv + 3) (by omega)
    have hsession := hreceiver.receiving (p.settleDiv + 10 * p.bitDiv - 1) (by omega) (by omega)
    exact ⟨x, hx, hsession.kept.2.2.2.1⟩
  · obtain ⟨x, hx, -, hreceiver⟩ := hat (11 * p.bitDiv + p.settleDiv + 4) (by omega)
    have hbyte := hreceiver.delivered (by omega)
    exact ⟨x, hx, congrArg Arch.resValid hbyte, congrArg Arch.resData hbyte⟩
  · obtain ⟨x, hx, hsender, -⟩ := hat (12 * p.bitDiv) (by omega)
    exact ⟨x, hx, (hsender.sending (by omega)).mode⟩
  · obtain ⟨x, hx, hsender, -⟩ := hat (12 * p.bitDiv + 1) (by omega)
    exact ⟨x, hx, hsender.done (by omega)⟩

end Sys2Proof.Machine

/-! PROOFS. The rules of 60_exceptions.md: every step completes, what a cycle's events are to each other, and the timer's
fairness, at the event level and of the clock. -/

namespace Sys2Proof.Machine

/-! ### No cycle stops, and two orders within a cycle (R220, R228, R229) -/

/-- Settles O21: a step is a cycle, under reset or not. -/
theorem everyStepHasANextState : Obligations.EveryStepHasANextState := by
  intro s
  cases hr : s.portsNow.rst with
  | true => exact ⟨_, cycle_of_reset s.portsNow s.portsTaken hr⟩
  | false => exact cycle_next s.portsNow s.portsTaken hr

/-- Phase 3 neither reads nor writes `prev`. -/
theorem State.commandPhase_withPrev (inp : Inputs) (s : State) (x : Bool) : ∃ t, s.commandPhase inp = .next t ∧
    ({ s with prev := x } : State).commandPhase inp = .next { t with prev := x } := by
  cases hc : inp.cmdValid with
  | false => exact ⟨_, State.commandPhase_of_no_command hc, State.commandPhase_of_no_command hc⟩
  | true =>
    rw [State.commandPhase_of_command hc, State.commandPhase_of_command hc]
    refine ⟨_, exec_eq _ s, ?_⟩
    cases decode inp.word <;> rfl

/-- Outside sessions and with the trigger disarmed a cycle is phases 3 and 4 alone. -/
theorem cycle_of_disarmed {inp : Inputs} {s t : State} (harmed : s.armed = false) (hm : s.mode ≠ .tx)
    (hr : s.rxActive = false) (hrst : inp.rst = false) (ht : s.commandPhase inp = .next t) :
    cycle inp s = .next (t.carrierSyncPhase s.gate inp.irRx) :=
  cycle_of_commandPhase inp s t hrst
    (by rw [State.timerPhase_of_no_session s.s2 hm hr, State.edgePhase_of_disarmed s.fall harmed, ht])

/-- Settles O44: what phases 3 and 4 leave is the same but for `prev`, which phase 4 writes anew. -/
theorem disarmedEdgeLeavesNoTrace : Obligations.DisarmedEdgeLeavesNoTrace := by
  intro inp s x harmed hm hr
  cases hrst : inp.rst with
  | true => rw [cycle_of_reset inp _ hrst, cycle_of_reset inp s hrst]; rfl
  | false =>
    obtain ⟨t, ht, hx⟩ := s.commandPhase_withPrev inp x
    rw [cycle_of_disarmed harmed hm hr hrst ht, cycle_of_disarmed (s := { s with prev := x }) harmed hm hr hrst hx]
    rfl

/-- A cycle with a command on the port answers it in the registers that the tick and the EDGE of the cycle leave, and an
accepted SEND starts the bit period anew (R198). -/
theorem cycle_of_command {inp : Inputs} {i : Instr} (s : State) (hrst : inp.rst = false) (hcmd : inp.cmdValid = true)
    (hdecode : decode inp.word = i) : ∃ t, cycle inp s = .next t ∧
      t.toArch = (s.eventPhases.toArch.command i s.s2).1 ∧ t.rsp = (s.eventPhases.toArch.command i s.s2).2 ∧
      t.settle.toNat = s.eventPhases.settle.toNat ∧
      ∀ b, i = .send b → s.eventPhases.sendBusy = false → t.bpc.toNat = 0 := by
  have hcommand : s.eventPhases.commandPhase inp = exec i s.eventPhases := by
    rw [State.commandPhase_of_command hcmd, hdecode]
  obtain ⟨hline, -⟩ := s.eventPhases_sameLine
  rw [exec_eq, hline.s2] at hcommand
  refine ⟨_, cycle_of_commandPhase inp s _ hrst hcommand, rfl, rfl, rfl, ?_⟩
  rintro b rfl hfree
  simp [hfree]

/-- The tick and the EDGE in the cycle of the twelfth TX_TICK: the session ends, and a fall in this very cycle on an
empty slot starts a receive session (R114, R192). -/
theorem State.eventPhases_of_twelfth_txTick {s : State} (hm : s.mode = .tx) (hr : s.rxActive = false)
    (hcount : s.txCount = 11) (hlast : s.bpc.toNat = s.params.bitDiv - 1) :
    (s.fall = false ∨ s.resValid = true → s.eventPhases.toArch = s.toArch.emitBit.endTransmit) ∧
    (s.fall = true → s.resValid = false →
      s.eventPhases.toArch = s.toArch.emitBit.endTransmit.startReceive ∧
      s.eventPhases.settle.toNat = s.params.settleDiv) := by
  rw [State.eventPhases, State.timerPhase_of_txTick s.s2 hm hr hlast, Arch.txTick_of_twelfth hcount]
  rcases State.edgePhase_cases s.fall { s with toArch := s.toArch.emitBit.endTransmit, bpc := 0 } with
    ⟨hnone, he⟩ | ⟨hfall, -, hv, he⟩ <;> rw [he]
  · exact ⟨fun _ => rfl, fun hfall hv => by simp [hfall, hv] at hnone⟩
  · have hempty : s.resValid = false := hv
    exact ⟨fun hquiet => by simp [hfall, hempty] at hquiet, fun _ _ => ⟨rfl, settle_load_toNat s.params⟩⟩

/-- Settles O50: after the twelfth tick the link is in IDLE and armed, so that SEND finds it free unless phase 2 starts a
session first. -/
theorem sendInTheCycleOfTheLastTick : Obligations.SendInTheCycleOfTheLastTick := by
  intro inp b s hm hr hcount hlast hrst hcmd hdecode
  obtain ⟨hfree, hsession⟩ := State.eventPhases_of_twelfth_txTick hm hr hcount hlast
  obtain ⟨t, ht, harch, hrsp, hsettle, hbpc⟩ := cycle_of_command s hrst hcmd hdecode
  constructor
  · intro hquiet
    have hphases := hfree (by rcases hquiet with h | h | h <;> simp [State.fall, h])
    rw [hphases, Arch.command, Arch.send_of_free (a := s.toArch.emitBit.endTransmit) b rfl hr] at harch hrsp
    have hzero := hbpc b rfl (by rw [hphases]; simp [Arch.sendBusy, hr])
    refine ⟨t, ht, ?_⟩
    rw [harch]
    exact ⟨rfl, rfl, rfl, hzero, rfl, rfl, hrsp⟩
  · intro hprev hs2 hv
    obtain ⟨hphases, hdelay⟩ := hsession (by simp [State.fall, hprev, hs2]) hv
    rw [hphases, Arch.command, Arch.send_of_busy b (.inr rfl)] at harch hrsp
    refine ⟨t, ht, ?_⟩
    rw [harch]
    exact ⟨rfl, rfl, hsettle.trans hdelay, hrsp⟩

/-- Settles O51: the commit fills the slot, so that phase 2 has no effect and RECEIVE_BYTE finds the byte in IDLE. -/
theorem receiveByteInTheCycleOfTheCommit : Obligations.ReceiveByteInTheCycleOfTheCommit := by
  intro inp c s hm hr hsettled hcount hlast hcheck hrst hcmd hdecode
  have hword : checkFrame (s.toArch.sampleBit s.s2).rxAcc = .commit c := by simpa [hcount] using hcheck
  have htick : s.toArch.rxTick s.s2 = (s.toArch.sampleBit s.s2).endReceive.fillSlot c := by
    rw [Arch.rxTick_of_tenth s.s2 hcount, Arch.completeReceive_of_commit hword]
  have hphases : s.eventPhases.toArch = (s.toArch.sampleBit s.s2).endReceive.fillSlot c := by
    rw [State.eventPhases, State.timerPhase_of_rxTick s.s2 (by simp [hm]) hr hsettled hlast, htick,
      State.edgePhase_of_full_slot s.fall rfl]
  obtain ⟨t, ht, harch, hrsp, -⟩ := cycle_of_command s hrst hcmd hdecode
  rw [hphases, Arch.command, Arch.receiveByte_outside_receive rfl] at harch hrsp
  refine ⟨t, ht, hrsp, ?_⟩
  rw [harch]
  exact ⟨rfl, rfl, if_pos hm⟩

end Sys2Proof.Machine

/-! PROOFS. The fairness of the timer at the event level (60_exceptions.md R227, R238): an enabled tick happens, and a
session ends after the ticks it has left. -/

namespace Sys2Proof.Machine

/-! ### An enabled tick happens (R238) -/

/-- Settles O58: till the tick, no event that happens touches what enables it, nor the transmitter. -/
theorem enabledTickEventuallyHappens : Obligations.EnabledTickEventuallyHappens := by
  rintro b n ⟨-, hfairTx, hfairRx⟩
  refine ⟨fun hen => ?_, fun level hr => ?_⟩
  · obtain ⟨m, e, hm, he, hkind, hkept⟩ := Behaviour.weaklyFair_happens hfairTx
      (fun a => a.mode = .tx ∧ a.txShift = (b.state n).txShift ∧ a.txCount = (b.state n).txCount) n
      ⟨Event.txTick_enabled_iff.mp hen, rfl, rfl⟩ (fun a ⟨htx, _⟩ => (exists_txTick_enabled a).mpr htx)
      (fun k e _ ⟨htx, hshift, hcount⟩ _ hother => by
        rcases Event.apply_in_transmit e (b.state k) htx with rfl | ⟨htx', hshift', hcount', -⟩
        · cases hother
        · exact ⟨htx', hshift'.trans hshift, hcount'.trans hcount⟩)
    obtain rfl := (Event.isTxTick_iff e).mp hkind
    refine ⟨m, hm, he, fun k hk hkm => ?_⟩
    obtain ⟨⟨htx, hregisters⟩, -⟩ := hkept k hk hkm
    exact ⟨Event.txTick_enabled_iff.mpr htx, hregisters⟩
  · obtain ⟨m, e, hm, he, hkind, hkept⟩ := Behaviour.weaklyFair_happens hfairRx
      (fun a => a.rxActive = true) n hr (fun a => (exists_rxTick_enabled a).mpr)
      (fun k e _ hactive _ hother => Event.apply_keeps_rxActive e _ hactive
        (fun seen h => by simp [h, Event.isRxTick] at hother))
    obtain ⟨seen, rfl⟩ := (Event.isRxTick_iff e).mp hkind
    exact ⟨m, seen, hm, he, fun k hk hkm => (hkept k hk hkm).1⟩

/-! ### Sessions that ticks of one kind count out (R227, U13) -/

/-- A kind of session of the link: while it is `active` its ticks are enabled and `count` is below `total`; only a tick
moves the count, by one, and only the tick that completes `total` ends the session. -/
structure CountedSession (isTick : Event → Bool) (active : Arch → Prop) (count : Arch → Nat) (total : Nat) : Prop where
  enabled : ∀ a, active a → ∃ e, isTick e = true ∧ e.enabled a = true
  unfinished : ∀ a, a.Inv → active a → count a < total
  kept : ∀ a e, a.Inv → active a → e.enabled a = true → isTick e = false →
    active (e.apply a) ∧ count (e.apply a) = count a
  counted : ∀ a e, a.Inv → active a → isTick e = true → count a + 1 ≠ total →
    active (e.apply a) ∧ count (e.apply a) = count a + 1

/-- TX_TICK counts out a transmit session in `txCount` (R113, R114). -/
theorem transmit_countedSession :
    CountedSession Event.isTxTick (fun a => a.mode = .tx) (fun a => a.txCount.toNat) 12 where
  enabled a := (exists_txTick_enabled a).mpr
  unfinished a h hm := Nat.lt_succ_of_le (h.transmitting hm).1
  kept a e _ hm _ hother := by
    rcases Event.apply_in_transmit e a hm with rfl | ⟨hm', -, hcount, -⟩
    · cases hother
    · exact ⟨hm', congrArg BitVec.toNat hcount⟩
  counted a e h hm htick hmore := by
    obtain rfl := (Event.isTxTick_iff e).mp htick
    have hne : a.txCount ≠ 11 := fun hc => hmore (by rw [hc]; rfl)
    rw [Event.apply, Arch.txTick_of_not_twelfth hne]
    exact ⟨hm, bitCount_succ_toNat a.txCount (h.transmitting hm).1⟩

/-- RX_TICK counts out a receive session in `rxCount` (R133, R134); EDGE and TX_TICK are not enabled in it. -/
theorem receive_countedSession :
    CountedSession Event.isRxTick (fun a => a.rxActive = true) (fun a => a.rxCount.toNat) 10 where
  enabled a := (exists_rxTick_enabled a).mpr
  unfinished a h hr := Nat.lt_succ_of_le (h.receiving hr).1
  kept a e h hr hen hother := by
    obtain ⟨hm, -, harmed, -⟩ := (Arch.inv_iff_of_receiving hr).mp h
    rcases Event.apply_in_receive e a hr with ⟨level, rfl⟩ | rfl | rfl | hsame
    · cases hother
    · exact absurd (harmed.symm.trans hen) (by decide)
    · exact absurd (hm.symm.trans (Event.txTick_enabled_iff.mp hen)) (by decide)
    · rw [hsame]; exact ⟨hr, rfl⟩
  counted a e h hr htick hmore := by
    obtain ⟨level, rfl⟩ := (Event.isRxTick_iff e).mp htick
    have hne : a.rxCount ≠ 9 := fun hc => hmore (by rw [hc]; rfl)
    rw [Event.apply, Arch.rxTick_of_not_tenth level hne]
    exact ⟨hr, bitCount_succ_toNat a.rxCount (BitVec.le_trans (h.receiving hr).1 (by decide))⟩

section
variable {b : Behaviour} {isTick : Event → Bool} {active : Arch → Prop} {count : Arch → Nat} {total : Nat}

/-- The invariants hold at every moment of a behaviour that starts in them. -/
theorem Behaviour.state_inv (hb : b.possible) (h0 : b.start.Inv) (n : Nat) : (b.state n).Inv :=
  Behaviour.state_induction Arch.Inv hb 0 h0 (fun _ e _ hk _ hen => eventsKeepTheInvariants e _ hk hen) n n.zero_le

/-- A fair tick comes to every session, and till the first the session and its count stay as they are. -/
theorem CountedSession.next_tick (h : CountedSession isTick active count total) (hb : b.possible)
    (hfair : b.weaklyFair isTick) (h0 : b.start.Inv) (n : Nat) (hn : active (b.state n)) :
    ∃ k e, b.event (n + k) = some e ∧ isTick e = true ∧ (∀ j ≤ k, active (b.state (n + j))) ∧
      count (b.state (n + k)) = count (b.state n) ∧ b.countFrom isTick n (k + 1) = 1 := by
  obtain ⟨m, e, hm, he, htick, hkept⟩ := Behaviour.weaklyFair_happens hfair
    (fun a => a.Inv ∧ active a ∧ count a = count (b.state n)) n ⟨Behaviour.state_inv hb h0 n, hn, rfl⟩
    (fun a ⟨_, hactive, _⟩ => h.enabled a hactive)
    (fun k e _ ⟨hinv, hactive, hcount⟩ hk hother => by
      have hen := hb k e hk
      obtain ⟨hactive', hcount'⟩ := h.kept _ e hinv hactive hen hother
      exact ⟨eventsKeepTheInvariants e _ hinv hen, hactive', hcount'.trans hcount⟩)
  obtain ⟨k, rfl⟩ := Nat.exists_eq_add_of_le hm
  have hnone : b.countFrom isTick n k = 0 :=
    Behaviour.countFrom_eq_zero n k fun j hj => (hkept (n + j) (by omega) (by omega)).2 (by omega)
  refine ⟨k, e, he, htick, fun j hj => ?_, ?_, ?_⟩
  · obtain ⟨⟨-, hactive, -⟩, -⟩ := hkept (n + j) (by omega) (by omega)
    exact hactive
  · obtain ⟨⟨-, -, hcount⟩, -⟩ := hkept (n + k) hm le_rfl
    exact hcount
  · simp [Behaviour.countFrom, hnone, he, htick]

/-- Under a fair timer a session goes on until the tick that completes its count, and the ticks till then make up the
count. -/
theorem CountedSession.last_tick (h : CountedSession isTick active count total) (hb : b.possible)
    (hfair : b.weaklyFair isTick) (h0 : b.start.Inv) (n : Nat) (hn : active (b.state n)) :
    ∃ k e, b.event (n + k) = some e ∧ isTick e = true ∧ (∀ j ≤ k, active (b.state (n + j))) ∧
      count (b.state (n + k)) + 1 = total ∧ count (b.state n) + b.countFrom isTick n (k + 1) = total := by
  obtain ⟨left, hleft⟩ := Nat.exists_eq_add_of_lt (h.unfinished _ (Behaviour.state_inv hb h0 n) hn)
  induction left generalizing n with
  | zero =>
    obtain ⟨k, e, he, htick, hactive, hcount, hone⟩ := h.next_tick hb hfair h0 n hn
    exact ⟨k, e, he, htick, hactive, by omega, by omega⟩
  | succ left ih =>
    obtain ⟨k, e, he, htick, hactive, hcount, hone⟩ := h.next_tick hb hfair h0 n hn
    obtain ⟨hgoesOn, hsucc⟩ := h.counted _ e (Behaviour.state_inv hb h0 _) (hactive k le_rfl) htick (by omega)
    rw [← Behaviour.state_of_some he] at hgoesOn hsucc
    obtain ⟨l, e', he', htick', hactive', hlast, htotal⟩ := ih (n + k + 1) hgoesOn (by omega)
    refine ⟨k + 1 + l, e', ?_, htick', fun j hj => ?_, ?_, ?_⟩
    · rwa [← Nat.add_assoc]
    · by_cases hfirst : j ≤ k
      · exact hactive j hfirst
      · obtain ⟨i, rfl⟩ := Nat.exists_eq_add_of_lt (Nat.lt_of_not_le hfirst)
        have := hactive' i (by omega)
        rwa [show n + (k + i + 1) = n + k + 1 + i by omega]
    · rwa [← Nat.add_assoc]
    · rw [Nat.add_assoc (k + 1) l 1, Behaviour.countFrom_add, hone, ← Nat.add_assoc n k 1]
      omega

end

/-- Settles O59: a session lasts until its count is complete, and the tick that completes it is the twelfth TX_TICK
(R114) or the tenth RX_TICK (R134). -/
theorem fairSessionsEnd : Obligations.FairSessionsEnd := by
  rintro b n ⟨hb, hfairTx, hfairRx⟩ h0
  refine ⟨fun hm => ?_, fun hr => ?_⟩
  · obtain ⟨k, e, he, htick, hactive, hlast, htotal⟩ := transmit_countedSession.last_tick hb hfairTx h0 n hm
    obtain rfl := (Event.isTxTick_iff e).mp htick
    have htwelfth : (b.state (n + k)).txCount = 11 := BitVec.eq_of_toNat_eq (Nat.succ.inj hlast)
    have hend := (Behaviour.state_inv hb h0 (n + k)).emitBit_endTransmit (hactive k le_rfl) htwelfth
    have hstate : b.state (n + k + 1) = (b.state (n + k)).emitBit.endTransmit := by
      rw [Behaviour.state_of_some he, Event.apply, Arch.txTick_of_twelfth htwelfth]
    refine ⟨k, he, hactive, htotal, ?_⟩
    rw [hstate]
    exact ⟨rfl, rfl, hend.gateInMode.2 rfl⟩
  · obtain ⟨k, e, he, htick, hactive, hlast, htotal⟩ := receive_countedSession.last_tick hb hfairRx h0 n hr
    obtain ⟨level, rfl⟩ := (Event.isRxTick_iff e).mp htick
    have htenth : (b.state (n + k)).rxCount = 9 := BitVec.eq_of_toNat_eq (Nat.succ.inj hlast)
    have hstate : b.state (n + k + 1) = ((b.state (n + k)).sampleBit level).completeReceive := by
      rw [Behaviour.state_of_some he, Event.apply, Arch.rxTick_of_tenth level htenth]
    refine ⟨k, level, he, hactive, htotal, ?_⟩
    rw [hstate]
    exact ⟨Arch.completeReceive_rxActive _, Arch.completeReceive_full_or_armed _⟩

end Sys2Proof.Machine

/-! PROOFS. The fairness of the clock (60_exceptions.md R227, 43_cycle_level.md R202): every infinite run of clock cycles
is a fair behaviour of the event level, in which each cycle is three moments. -/

namespace Sys2Proof.Machine

/-! ### Moments of a behaviour -/

/-- What one moment of a possible behaviour does to the registers: nothing, or an event that is enabled. -/
inductive Arch.Moment : Option Event → Arch → Arch → Prop where
  | silent (a : Arch) : Moment none a a
  | happens {e : Event} {a : Arch} (hen : e.enabled a = true) : Moment (some e) a (e.apply a)

theorem Arch.Moment.enabled {e : Event} {a x : Arch} (h : Arch.Moment (some e) a x) : e.enabled a = true := by
  cases h with
  | happens hen => exact hen

theorem Behaviour.state_of_moment {b : Behaviour} {m : Nat} {x : Arch} (h : Arch.Moment (b.event m) (b.state m) x) :
    b.state (m + 1) = x := by
  generalize he : b.event m = o at h
  cases h with
  | silent => exact Behaviour.state_of_none he
  | happens => exact Behaviour.state_of_some he

/-- Registers that go from moment to moment by the given events are those of a possible behaviour. -/
theorem Behaviour.possible_of_moments {b : Behaviour} {r : Nat → Arch} (h0 : b.start = r 0)
    (h : ∀ m, Arch.Moment (b.event m) (r m) (r (m + 1))) : b.possible ∧ ∀ m, b.state m = r m := by
  have hstate (m : Nat) : b.state m = r m := by
    induction m with
    | zero => exact h0
    | succ m ih => exact Behaviour.state_of_moment (by rw [ih]; exact h m)
  refine ⟨fun m e he => ?_, hstate⟩
  rw [hstate m]
  exact Arch.Moment.enabled (he ▸ h m)

/-! ### Three moments a cycle -/

/-- Three sequences in turn: `f`, `g` and `h` at the moments `3 * n`, `3 * n + 1` and `3 * n + 2`. -/
def inTurn {α : Type} (f g h : Nat → α) (m : Nat) : α :=
  match m % 3 with
  | 0 => f (m / 3)
  | 1 => g (m / 3)
  | _ => h (m / 3)

section
variable {α : Type} (f g h : Nat → α) (n : Nat)

@[simp] theorem inTurn_first : inTurn f g h (3 * n) = f n := by
  simp [inTurn]

@[simp] theorem inTurn_second : inTurn f g h (3 * n + 1) = g n := by
  simp [inTurn, Nat.mul_add_div]

@[simp] theorem inTurn_third : inTurn f g h (3 * n + 2) = h n := by
  simp [inTurn, Nat.mul_add_div]

end

/-- Every moment is one of the three of a cycle. -/
theorem moment_cases {motive : Nat → Prop} (first : ∀ n, motive (3 * n)) (second : ∀ n, motive (3 * n + 1))
    (third : ∀ n, motive (3 * n + 2)) (m : Nat) : motive m := by
  rw [← Nat.div_add_mod m 3]
  have hlt : m % 3 < 3 := Nat.mod_lt m (by decide)
  interval_cases m % 3
  · exact first _
  · exact second _
  · exact third _

/-! ### The tick of a cycle -/

/-- How many cycles of the session lie before the one with its next tick: what is left of the settling delay and of the
bit period (R195, R196). -/
def State.cyclesToTick (s : State) : Nat := s.settle.toNat + (s.params.bitDiv - 1 - s.bpc.toNat)

/-- The event of phase 1: the tick that is due, TX_TICK while transmitting, else RX_TICK at the level `s2` (R196). -/
def State.tickEvent (s : State) : Option Event :=
  if 0 < s.cyclesToTick then none
  else if s.mode = .tx then some .txTick
  else if s.rxActive = true then some (.rxTick s.s2)
  else none

/-- The event of phase 2: EDGE where the line fell and the trigger is armed (R197). -/
def State.edgeEvent (fall : Bool) (s : State) : Option Event := if fall && s.armed then some .edge else none

/-- The event of phase 3: the command on the port, at the given level (R198). -/
def Inputs.commandEvent (inp : Inputs) (level : Bool) : Option Event :=
  if inp.cmdValid = true then some (.command (decode inp.word) level) else none

section
variable {s : State}

theorem Arch.sessionActive_iff (a : Arch) : a.sessionActive = true ↔ a.mode = .tx ∨ a.rxActive = true := by
  simp [Arch.sessionActive, Arch.txActive]

theorem State.tickEvent_cases (s : State) :
    s.tickEvent = none ∨ s.tickEvent = some .txTick ∨ s.tickEvent = some (.rxTick s.s2) := by
  unfold State.tickEvent
  split_ifs <;> simp

theorem State.edgeEvent_cases (fall : Bool) (s : State) :
    s.edgeEvent fall = none ∨ s.edgeEvent fall = some .edge := by
  unfold State.edgeEvent
  split_ifs <;> simp

theorem State.tickEvent_of_transmit (hdue : s.cyclesToTick = 0) (hm : s.mode = .tx) : s.tickEvent = some .txTick := by
  simp [State.tickEvent, hdue, hm]

theorem State.tickEvent_of_receive (hdue : s.cyclesToTick = 0) (hm : s.mode ≠ .tx) (hr : s.rxActive = true) :
    s.tickEvent = some (.rxTick s.s2) := by
  simp [State.tickEvent, hdue, hm, hr]

theorem State.tickEvent_of_waiting (hwait : 0 < s.cyclesToTick) : s.tickEvent = none := by
  simp [State.tickEvent, hwait]

theorem State.tickEvent_of_no_session (h : s.sessionActive = false) : s.tickEvent = none := by
  have hnone : ¬ (s.mode = .tx ∨ s.rxActive = true) := by rw [← Arch.sessionActive_iff, h]; decide
  obtain ⟨hm, hr⟩ := not_or.mp hnone
  simp [State.tickEvent, hm, hr]

/-- In a transmit session there is no settling delay to wait for (R195). -/
theorem State.Inv.settle_of_transmit (h : s.Inv) (hm : s.mode = .tx) : s.settle.toNat = 0 := by
  obtain ⟨hr, -⟩ := (Arch.inv_iff_of_transmitting hm).mp h.arch
  by_contra hne
  obtain ⟨hr', -⟩ := h.settleInSession (Nat.pos_of_ne_zero hne)
  exact absurd (hr.symm.trans hr') (by decide)

/-- A tick is due when the settling delay is over and the bit period in its last cycle. -/
theorem State.Inv.cyclesToTick_eq_zero_iff (h : s.Inv) :
    s.cyclesToTick = 0 ↔ s.settle.toNat = 0 ∧ s.bpc.toNat = s.params.bitDiv - 1 := by
  have hrange := h.bpcRange
  unfold State.cyclesToTick
  omega

/-- Phase 1 while no tick is due: it comes one cycle nearer, and the registers stay. -/
theorem State.Inv.timerPhase_of_waiting (h : s.Inv) (level : Bool) (hsession : s.sessionActive = true)
    (hwait : 0 < s.cyclesToTick) :
    (s.timerPhase level).toArch = s.toArch ∧ (s.timerPhase level).cyclesToTick + 1 = s.cyclesToTick := by
  have hrange := h.bpcRange
  have hdue := mt h.cyclesToTick_eq_zero_iff.mpr hwait.ne'
  rcases State.timerPhase_cases level s with
    ⟨-, hpos, ht⟩ | ⟨hm, hlast, -⟩ | ⟨-, -, hsettled, hlast, -⟩ | ⟨-, hlast, ht⟩ | ⟨hnone, -⟩
  · have hpred := counter_pred_toNat s.settle hpos
    rw [ht]
    refine ⟨rfl, ?_⟩
    simp only [State.cyclesToTick, hpred]
    omega
  · exact absurd ⟨h.settle_of_transmit hm, hlast⟩ hdue
  · exact absurd ⟨hsettled, hlast⟩ hdue
  · have hsucc := bpc_succ_toNat s.bpc (by omega)
    rw [ht]
    refine ⟨rfl, ?_⟩
    simp only [State.cyclesToTick, hsucc]
    omega
  · exact absurd (hsession.symm.trans hnone) (by decide)

/-! ### The phases of a cycle are moments -/

/-- Phase 1 performs the tick event of its cycle. -/
theorem State.Inv.timerPhase_moment (h : s.Inv) :
    Arch.Moment s.tickEvent s.toArch (s.timerPhase s.s2).toArch := by
  cases hsession : s.sessionActive with
  | false =>
    obtain ⟨hm, hr⟩ := not_or.mp (mt s.toArch.sessionActive_iff.mpr (by simp [hsession]))
    rw [State.tickEvent_of_no_session hsession, State.timerPhase_of_no_session s.s2 hm (by simpa using hr)]
    exact .silent _
  | true =>
    rcases Nat.eq_zero_or_pos s.cyclesToTick with hdue | hwait
    · obtain ⟨hsettled, hlast⟩ := h.cyclesToTick_eq_zero_iff.mp hdue
      rcases s.toArch.sessionActive_iff.mp hsession with hm | hr
      · obtain ⟨hr, -⟩ := (Arch.inv_iff_of_transmitting hm).mp h.arch
        rw [State.tickEvent_of_transmit hdue hm, State.timerPhase_of_txTick s.s2 hm hr hlast]
        exact .happens (Event.txTick_enabled_iff.mpr hm)
      · have hm : s.mode ≠ .tx := by simp [h.arch.receivingInIdle hr]
        rw [State.tickEvent_of_receive hdue hm hr, State.timerPhase_of_rxTick s.s2 hm hr hsettled hlast]
        exact .happens (e := .rxTick s.s2) hr
    · rw [State.tickEvent_of_waiting hwait, (h.timerPhase_of_waiting s.s2 hsession hwait).1]
      exact .silent _

/-- Phase 2 performs the edge event of its cycle; with a full slot EDGE changes nothing (R131). -/
theorem State.edgePhase_moment (fall : Bool) (s : State) :
    Arch.Moment (s.edgeEvent fall) s.toArch (s.edgePhase fall).toArch := by
  have hregisters : (s.edgePhase fall).toArch = if fall && s.armed then s.toArch.edge else s.toArch := by
    rcases State.edgePhase_cases fall s with ⟨hnone, he⟩ | ⟨hfall, harmed, hv, he⟩ <;> rw [he]
    · rcases hnone with hfall | harmed | hv
      · simp [hfall]
      · simp [harmed]
      · simp [Arch.edge_of_full_slot hv]
    · simp [hfall, harmed, Arch.edge_of_empty_slot hv]
  rw [hregisters, State.edgeEvent]
  split_ifs with hedge
  · exact .happens (Bool.and_eq_true_iff.mp hedge).2
  · exact .silent _

/-- Phase 3 performs the command event of its cycle. -/
theorem State.commandPhase_moment {inp : Inputs} {u : State} (hu : s.commandPhase inp = .next u) :
    Arch.Moment (inp.commandEvent s.s2) s.toArch u.toArch := by
  obtain ⟨hnone, hcommand⟩ := State.commandPhase_runs_command hu
  unfold Inputs.commandEvent
  split_ifs with hc
  · rw [(hcommand hc).1]
    exact .happens rfl
  · rw [(hnone (by simpa using hc)).1]
    exact .silent _

/-! ### A cycle of a session before its next tick -/

/-- A session finds the trigger disarmed (R38). -/
theorem Arch.Inv.disarmed_of_session {a : Arch} (h : a.Inv) (hsession : a.sessionActive = true) : a.armed = false := by
  rcases a.sessionActive_iff.mp hsession with hm | hr
  · obtain ⟨-, harmed, -⟩ := (Arch.inv_iff_of_transmitting hm).mp h
    exact harmed
  · obtain ⟨-, -, harmed, -⟩ := (Arch.inv_iff_of_receiving hr).mp h
    exact harmed

/-- No command ends a session (R120, R141). -/
theorem Arch.command_keeps_session (i : Instr) (level : Bool) {a : Arch} (hsession : a.sessionActive = true) :
    (a.command i level).1.mode = a.mode ∧ (a.command i level).1.rxActive = a.rxActive := by
  rcases a.sessionActive_iff.mp hsession with hm | hr
  · rcases Arch.command_in_transmit i level a hm with h | h <;> rw [h] <;> exact ⟨rfl, rfl⟩
  · rw [Arch.command_in_receive i level a hr]
    exact ⟨rfl, rfl⟩

/-- Before the tick is due a cycle without reset brings the session one cycle nearer to it, whatever is on the ports. -/
theorem State.Inv.cycle_of_waiting {t : State} {inp : Inputs} (h : s.Inv) (hsession : s.sessionActive = true)
    (hwait : 0 < s.cyclesToTick) (hrst : inp.rst = false) (ht : Machine.cycle inp s = .next t) :
    t.mode = s.mode ∧ t.rxActive = s.rxActive ∧ t.cyclesToTick + 1 = s.cyclesToTick := by
  obtain ⟨harch, hnearer⟩ := h.timerPhase_of_waiting s.s2 hsession hwait
  have hphases : (s.timerPhase s.s2).edgePhase s.fall = s.timerPhase s.s2 :=
    State.edgePhase_of_disarmed s.fall (by rw [harch]; exact h.arch.disarmed_of_session hsession)
  have hbusy : (s.timerPhase s.s2).sendBusy = true := by
    rw [harch]
    rcases s.toArch.sessionActive_iff.mp hsession with hm | hr
    · simp [Arch.sendBusy, hm]
    · simp [Arch.sendBusy, hr]
  obtain ⟨u, hu, hregisters, hparams, hbpc, hsettle⟩ := State.commandPhase_in_session inp hbusy
  have hkept : u.mode = s.mode ∧ u.rxActive = s.rxActive := by
    rw [harch] at hregisters
    rcases hregisters with he | ⟨i, he⟩ <;> rw [he]
    · exact ⟨rfl, rfl⟩
    · exact Arch.command_keeps_session i _ hsession
  have hsame : u.cyclesToTick = (s.timerPhase s.s2).cyclesToTick := by
    rw [State.cyclesToTick, hbpc, hsettle, congrArg Params.bitDiv hparams, State.cyclesToTick]
  cases (cycle_of_commandPhase inp s u hrst (by rw [hphases, hu])).symm.trans ht
  exact ⟨hkept.1, hkept.2, hsame ▸ hnearer⟩

end

/-! ### Infinite runs of the clock -/

/-- An infinite run of clock cycles without reset, from a state that meets the invariants. -/
structure ClockedRun (ins : Nat → Inputs) (s : Nat → State) : Prop where
  start : (s 0).Inv
  noReset : ∀ n, (ins n).rst = false
  runs : ∀ n, cycle (ins n) (s n) = .next (s (n + 1))

/-- The behaviour that a run performs: in each cycle its tick, its EDGE and its command. -/
def clockedBehaviour (ins : Nat → Inputs) (s : Nat → State) : Behaviour where
  start := (s 0).toArch
  event := inTurn (fun n => (s n).tickEvent) (fun n => ((s n).timerPhase (s n).s2).edgeEvent (s n).fall)
    (fun n => (ins n).commandEvent (s n).s2)

/-- The registers that each phase of a run finds. -/
def clockedRegisters (s : Nat → State) : Nat → Arch :=
  inTurn (fun n => (s n).toArch) (fun n => ((s n).timerPhase (s n).s2).toArch) (fun n => (s n).eventPhases.toArch)

section
variable {ins : Nat → Inputs} {s : Nat → State}

theorem ClockedRun.inv (h : ClockedRun ins s) (n : Nat) : (s n).Inv ∧ (s n).params = (s 0).params := by
  induction n with
  | zero => exact ⟨h.start, rfl⟩
  | succ n ih =>
    obtain ⟨hinv, hparams⟩ := ih.1.cycle (h.runs n)
    exact ⟨hinv, hparams.trans ih.2⟩

@[simp] theorem clockedBehaviour_event_first (n : Nat) :
    (clockedBehaviour ins s).event (3 * n) = (s n).tickEvent := by
  simp [clockedBehaviour]

@[simp] theorem clockedBehaviour_event_second (n : Nat) :
    (clockedBehaviour ins s).event (3 * n + 1) = ((s n).timerPhase (s n).s2).edgeEvent (s n).fall := by
  simp [clockedBehaviour]

@[simp] theorem clockedBehaviour_event_third (n : Nat) :
    (clockedBehaviour ins s).event (3 * n + 2) = (ins n).commandEvent (s n).s2 := by
  simp [clockedBehaviour]

@[simp] theorem clockedRegisters_first (n : Nat) : clockedRegisters s (3 * n) = (s n).toArch := by
  simp [clockedRegisters]

@[simp] theorem clockedRegisters_second (n : Nat) :
    clockedRegisters s (3 * n + 1) = ((s n).timerPhase (s n).s2).toArch := by
  simp [clockedRegisters]

@[simp] theorem clockedRegisters_third (n : Nat) : clockedRegisters s (3 * n + 2) = (s n).eventPhases.toArch := by
  simp [clockedRegisters]

/-- The phases of a run are the moments of its behaviour (R202). -/
theorem ClockedRun.moment (h : ClockedRun ins s) (m : Nat) :
    Arch.Moment ((clockedBehaviour ins s).event m) (clockedRegisters s m) (clockedRegisters s (m + 1)) := by
  induction m using moment_cases with
  | first n =>
    rw [clockedBehaviour_event_first, clockedRegisters_first, clockedRegisters_second]
    exact (h.inv n).1.timerPhase_moment
  | second n =>
    rw [clockedBehaviour_event_second, clockedRegisters_second, clockedRegisters_third]
    exact State.edgePhase_moment _ _
  | third n =>
    obtain ⟨u, hu, -, hcycle⟩ := cycle_eq_phases (ins n) (s n) (h.noReset n)
    have hnext : u.carrierSyncPhase (s n).gate (ins n).irRx = s (n + 1) :=
      Host.Outcome.next.inj (hcycle.symm.trans (h.runs n))
    have hs2 : (s n).eventPhases.s2 = (s n).s2 := (s n).eventPhases_sameLine.1.s2
    rw [clockedBehaviour_event_third, clockedRegisters_third, show 3 * n + 2 + 1 = 3 * (n + 1) from rfl,
      clockedRegisters_first, ← hnext, State.carrierSyncPhase_toArch, ← hs2]
    exact State.commandPhase_moment hu

theorem ClockedRun.possible (h : ClockedRun ins s) : (clockedBehaviour ins s).possible ∧
    ∀ m, (clockedBehaviour ins s).state m = clockedRegisters s m :=
  Behaviour.possible_of_moments (clockedRegisters_first 0).symm h.moment

/-- A session goes on until its tick is due, and that is after as many cycles as are left (R203, R204). -/
theorem ClockedRun.tick_due (h : ClockedRun ins s) (n : Nat) (hsession : (s n).sessionActive = true) :
    (s (n + (s n).cyclesToTick)).cyclesToTick = 0 ∧ (s (n + (s n).cyclesToTick)).mode = (s n).mode ∧
      (s (n + (s n).cyclesToTick)).rxActive = (s n).rxActive := by
  induction hleft : (s n).cyclesToTick generalizing n with
  | zero => exact ⟨hleft, rfl, rfl⟩
  | succ left ih =>
    obtain ⟨hm, hr, hnearer⟩ := (h.inv n).1.cycle_of_waiting hsession (by omega) (h.noReset n) (h.runs n)
    have hgoesOn : (s (n + 1)).sessionActive = true := by
      rw [Arch.sessionActive_iff, hm, hr, ← Arch.sessionActive_iff]
      exact hsession
    obtain ⟨hdue, hm', hr'⟩ := ih (n + 1) hgoesOn (by omega)
    rw [show n + (left + 1) = n + 1 + left by omega]
    exact ⟨hdue, hm'.trans hm, hr'.trans hr⟩

/-- A transmit session ticks within `BIT_DIV` cycles (R196). -/
theorem ClockedRun.txTick_comes (h : ClockedRun ins s) (n : Nat) (hm : (s n).mode = .tx) :
    ∃ k < (s 0).params.bitDiv, (s (n + k)).tickEvent = some .txTick := by
  obtain ⟨hinv, hparams⟩ := h.inv n
  obtain ⟨hdue, hm', -⟩ := h.tick_due n ((Arch.sessionActive_iff _).mpr (.inl hm))
  refine ⟨_, ?_, State.tickEvent_of_transmit hdue (hm'.trans hm)⟩
  have hrange := hinv.bpcRange
  rw [State.cyclesToTick, hinv.settle_of_transmit hm, ← hparams]
  omega

/-- A receive session ticks within `SETTLE_DIV` + `BIT_DIV` cycles (R195, R196). -/
theorem ClockedRun.rxTick_comes (h : ClockedRun ins s) (n : Nat) (hr : (s n).rxActive = true) :
    ∃ k < (s 0).params.settleDiv + (s 0).params.bitDiv,
      (s (n + k)).tickEvent = some (.rxTick (s (n + k)).s2) := by
  obtain ⟨hinv, hparams⟩ := h.inv n
  obtain ⟨hdue, hm', hr'⟩ := h.tick_due n ((Arch.sessionActive_iff _).mpr (.inr hr))
  have hidle := hinv.arch.receivingInIdle hr
  refine ⟨_, ?_, State.tickEvent_of_receive hdue (by simp [hm', hidle]) (hr'.trans hr)⟩
  have hrange := hinv.bpcRange
  have hdelay := hinv.settleRange
  rw [State.cyclesToTick, ← hparams]
  omega

/-- The registers at a run's moment `3 * n` are those before its cycle `n`. -/
theorem ClockedRun.state_first (h : ClockedRun ins s) (n : Nat) :
    (clockedBehaviour ins s).state (3 * n) = (s n).toArch :=
  (h.possible.2 _).trans (clockedRegisters_first n)

/-- A kind of tick that comes again and again while it is enabled is treated fairly. -/
theorem ClockedRun.weaklyFair (h : ClockedRun ins s) (isTick : Event → Bool)
    (hcomes : ∀ n, (∃ e, isTick e = true ∧ e.enabled (s n).toArch = true) →
      ∃ k e, (s (n + k)).tickEvent = some e ∧ isTick e = true) :
    (clockedBehaviour ins s).weaklyFair isTick := by
  intro n hen
  have hcycle := hen (3 * n) (by omega)
  rw [h.state_first] at hcycle
  obtain ⟨k, e, he, htick⟩ := hcomes n hcycle
  exact ⟨3 * (n + k), e, by omega, by rw [clockedBehaviour_event_first, he], htick⟩

theorem ClockedRun.fair (h : ClockedRun ins s) : (clockedBehaviour ins s).fair := by
  refine ⟨h.possible.1, h.weaklyFair _ fun n hen => ?_, h.weaklyFair _ fun n hen => ?_⟩
  · obtain ⟨k, -, he⟩ := h.txTick_comes n ((exists_txTick_enabled _).mp hen)
    exact ⟨k, _, he, rfl⟩
  · obtain ⟨k, -, he⟩ := h.rxTick_comes n ((exists_rxTick_enabled _).mp hen)
    exact ⟨k, _, he, rfl⟩

end

/-- Settles O60: the behaviour that the run performs, moment by moment, and the bounds on its ticks. -/
theorem clockedRunsAreFairBehaviours : Obligations.ClockedRunsAreFairBehaviours := by
  intro ins s hinv hrst hruns
  have h : ClockedRun ins s := ⟨hinv, hrst, hruns⟩
  refine ⟨clockedBehaviour ins s, h.fair, fun n => ⟨h.state_first n, ?_, ?_, clockedBehaviour_event_third n⟩, fun n hm => ?_,
    fun n hr => ?_⟩
  · rw [clockedBehaviour_event_first]
    exact (s n).tickEvent_cases
  · rw [clockedBehaviour_event_second]
    exact State.edgeEvent_cases _ _
  · simpa using h.txTick_comes n hm
  · simpa using h.rxTick_comes n hr

end Sys2Proof.Machine

/-! PROOFS. Reset and the pending result (70_reset_and_hazards.md R250, R256): `rst` overrides everything else in its
cycle, and an unread byte keeps the receiver closed. -/

namespace Sys2Proof.Machine

/-! ### A pending result (R256, R131) -/

/-- A run without RECEIVE_BYTE from registers that hold a byte outside a receive session keeps the byte and starts no
such session. -/
theorem Arch.run_keeps_result {es : List Event} {a x : Arch} (hrun : Arch.run es a = some x)
    (hes : ∀ level, .command .receiveByte level ∉ es) (hv : a.resValid = true) (hr : a.rxActive = false) :
    x.resValid = true ∧ x.resData = a.resData ∧ x.rxActive = false := by
  induction es generalizing a with
  | nil =>
    cases hrun
    exact ⟨hv, rfl, hr⟩
  | cons e es ih =>
    obtain ⟨hen, hrest⟩ := Option.ite_none_right_eq_some.mp hrun
    obtain ⟨hv', hdata, hr'⟩ :=
      Event.apply_keeps_result e a hv hr hen fun level he => hes level (he ▸ List.mem_cons_self)
    exact hdata ▸ ih hrest (fun level hmem => hes level (List.mem_cons_of_mem e hmem)) hv' hr'

/-- A tick and an EDGE are no command, so that phases 1 and 2 keep a pending byte and start no receive session. -/
theorem State.eventPhases_keep_result {s : State} (hv : s.resValid = true) (hr : s.rxActive = false) :
    s.eventPhases.resValid = true ∧ s.eventPhases.resData = s.resData ∧ s.eventPhases.rxActive = false := by
  obtain ⟨ticks, edges, hticks, hedges, hrun⟩ := s.eventPhases_run
  refine Arch.run_keeps_result hrun (fun level => ?_) hv hr
  rcases hticks with rfl | rfl | rfl <;> rcases hedges with rfl | rfl <;> simp

/-- Phase 3 takes a pending byte only by RECEIVE_BYTE. -/
theorem State.commandPhase_keeps_result {inp : Inputs} {s u : State} (hu : s.commandPhase inp = .next u)
    (hcmd : inp.cmdValid = true → decode inp.word ≠ .receiveByte) (hv : s.resValid = true) (hr : s.rxActive = false) :
    u.resValid = true ∧ u.resData = s.resData ∧ u.rxActive = false := by
  obtain ⟨hnone, hcommand⟩ := State.commandPhase_runs_command hu
  cases hc : inp.cmdValid with
  | false =>
    rw [(hnone hc).1]
    exact ⟨hv, rfl, hr⟩
  | true =>
    rw [(hcommand hc).1]
    exact Event.apply_keeps_result (.command (decode inp.word) s.s2) s.toArch hv hr rfl
      fun level he => hcmd hc (Event.command.inj he).1

/-- Settles O46: the invariants exclude a receive session beside a full slot (R39), and no phase of the cycle takes the
byte or starts a session. -/
theorem pendingResultClosesTheReceiver : Obligations.PendingResultClosesTheReceiver := by
  intro inp s hinv hv hrst hcmd
  have hr : s.rxActive = false := by
    cases hr : s.rxActive with
    | false => rfl
    | true => simp [hinv.arch.receivingSlotEmpty hr] at hv
  obtain ⟨hv', hdata, hr'⟩ := State.eventPhases_keep_result hv hr
  obtain ⟨u, hu, -, hcycle⟩ := cycle_eq_phases inp s hrst
  obtain ⟨hfull, hsame, hclosed⟩ := State.commandPhase_keeps_result hu hcmd hv' hr'
  exact ⟨_, hcycle, hfull, hsame.trans hdata, hclosed⟩

/-! ### Reset (R250) -/

/-- Settles O19: a cycle under reset, in the block that has taken the record from its schedule. -/
theorem stepUnderResetIsReset : Obligations.StepUnderResetIsReset := by
  intro s inp rest hinputs hrst
  calc step s = cycle inp (s.withInputs rest) := step_of_cons hinputs
    _ = .next (s.withInputs rest).resetRegisters := cycle_of_reset inp (s.withInputs rest) hrst

end Sys2Proof.Machine

/-! PROOFS. Two choices of the model: that the reserved opcode runs (log entry 6), and that a step after the schedule
draws the line level (log entries 3 and 4). -/

namespace Sys2Proof

theorem decode_of_reserved7 {w : CmdWord} (h : w.op = 7) : decode w = .reserved7 := by
  simp [decode, h]

end Sys2Proof

namespace Sys2Proof.Machine

/-! ### The reserved opcode (R94) -/

/-- Settles O12: `exec_eq` with the command that keeps the registers and answers `0x0000`. -/
theorem reservedOpcodeChangesNothing : Obligations.ReservedOpcodeChangesNothing := by
  intro s
  refine ⟨fun w hop => decode_of_reserved7 hop, ?_⟩
  rw [exec_eq, Arch.command, Arch.reserved7]
  rfl

/-! ### One step after the schedule (log entries 3 and 4) -/

/-- With the schedule over a step is a cycle in which the host presents nothing and the line level is the next draw. -/
theorem step_of_nil {s : State} (h : s.inputs = []) :
    step s = cycle (Inputs.silent (Config.irRx s.drawn)) { s with drawn := s.drawn + 1 } := by
  rw [step, State.portsNow_nil s h, State.portsTaken_nil s h]

/-- Settles O20: on either side the same silent cycle, in a block that has no further record. -/
theorem stepAfterScheduleDrawsLine : Obligations.StepAfterScheduleDrawsLine := by
  intro s hinputs
  have hsame : ({ s with drawn := s.drawn + 1 } : State) = { s with inputs := [], drawn := s.drawn + 1 } := by
    rw [← hinputs]
  have hpresented : step { s with inputs := [Inputs.silent (Config.irRx s.drawn)], drawn := s.drawn + 1 } =
      cycle (Inputs.silent (Config.irRx s.drawn)) { s with inputs := [], drawn := s.drawn + 1 } :=
    step_of_cons rfl
  rw [step_of_nil hinputs, hsame, hpresented]

end Sys2Proof.Machine
